-- ==== Sys2Proof/Word.lean ====
section
/-! DEFINITION. The fixed widths of the hardware (00_scope.md R6) and the plainest arithmetic on them. -/

namespace Sys2Proof

/-- A byte register, a memory byte, an immediate or a port number (R6: 8 bits). -/
abbrev Byte := BitVec 8

/-- A 16-bit register or an address (R6: PC, SP and addresses are 16 bits). -/
abbrev Word := BitVec 16

/-- A 32-bit ARGB word of the framebuffer (60_exceptions.md R326). -/
abbrev Pixel := BitVec 32

/-- `hi : lo`, concatenation with `hi` in the high part (R9). -/
def Word.ofBytes (hi lo : Byte) : Word := hi ++ lo

/-- `v[15:8]` of a word (R9). -/
def Word.hi (v : Word) : Byte := v.extractLsb' 8 8

/-- `v[7:0]` of a word (R9). -/
def Word.lo (v : Word) : Byte := v.extractLsb' 0 8

end Sys2Proof
end

