-- ==== Sys2Proof/Config.lean ====
section
/-! DEFINITION. What is fixed for the hardware or for a run: the parameters of 00_scope.md R5, R7 and R8 and the constants of R6 and R7. -/

namespace Sys2Proof

/-- `MODE` (R5), fixed for a run. -/
inductive Mode where
  | arcade
  | cpm
  deriving DecidableEq, Repr

/-- One overlay rectangle of a game descriptor: bounds and an ARGB colour (60_exceptions.md R320). The video writes the colour with alpha
0xFF (R326; log entry 20). -/
structure Rect where
  xMin   : Nat
  xMax   : Nat
  yMin   : Nat
  yMax   : Nat
  colour : Pixel
  deriving DecidableEq, Repr

/-- `COLOUR_SCHEME` (R7): no scheme, an ordered list of overlay rectangles, or a colour PROM of 1024 bytes. -/
inductive ColourScheme where
  | none
  | overlay (rects : List Rect)
  | prom (bytes : List Byte)
  deriving DecidableEq, Repr

/-- `FB_BYTE_ORDER` (R8; 92_eei_decisions.md D19): how a host lays the four bytes of a pixel out. -/
inductive FbByteOrder where
  | aFirst
  | bFirst
  deriving DecidableEq, Repr, Inhabited

namespace Config

/-- `FB_BYTE_ORDER` is OPEN (D19): a constant without a body, so that no proof can use its value.
DESIGN CHOICE, safe (log entry 13). -/
opaque fbByteOrder : FbByteOrder

/-- `CPU_HZ` (R7). -/
def cpuHz : Nat := 2000000

/-- `FPS` (R7). -/
def fps : Nat := 60

/-- `CYCLES_PER_FRAME = CPU_HZ / FPS`, by integer division (R7): 33,333. -/
def cyclesPerFrame : Nat := cpuHz / fps

/-- `INITIAL_PC` of each mode (R5; 70_reset_and_hazards.md R352). -/
def initialPc : Mode → Word
  | .arcade => 0x0000
  | .cpm => 0x0100

/-- What a byte of memory that nothing has written reads as: 0x00 (20_memory.md R62; D7). -/
def unwrittenByte : Byte := 0x00

/-- The display is 224 pixels wide (R6). -/
def width : Nat := 224

/-- The display is 256 pixels high (R6). -/
def height : Nat := 256

/-- The first address of VRAM (R6). -/
def vramBase : Nat := 0x2400

/-- The colour PROM holds 1024 bytes (R6). -/
def promSize : Nat := 1024

/-- Opaque black: the background, and every pixel of the framebuffer at creation (60_exceptions.md R322; D15). -/
def black : Pixel := 0xFF000000

/-- Opaque white: the foreground where no scheme or no rectangle gives one (R320; D17). -/
def white : Pixel := 0xFFFFFFFF

end Config

end Sys2Proof
end

