-- ==== Sys2Proof/Syntax.lean ====
section
/-! DEFINITION. The syntax: the operand names of the encoding fields, the 256 instructions (one constructor per row of
spec/opcode_table.json), and the events a host can send. -/

namespace Sys2Proof

/-- The seven byte registers of a field ddd or sss other than 6 (10_state.md R20, R24). The memory operand M is a form of its own. -/
inductive Reg where
  | b | c | d | e | h | l | a
  deriving DecidableEq, Repr

/-- The pairs `rp[p]` of LXI, DAD, INX and DCX (R25). -/
inductive Pair where
  | bc | de | hl | sp
  deriving DecidableEq, Repr

/-- The pairs of LDAX and STAX, `rp[p]` with p in 0 and 1 only (R25). -/
inductive IndexPair where
  | bc | de
  deriving DecidableEq, Repr

/-- The pairs `rpp[p]` of PUSH and POP other than PSW, which has rules of its own (R25). -/
inductive StackPair where
  | bc | de | hl
  deriving DecidableEq, Repr

/-- The conditions of a field ccc (R29). -/
inductive Cond where
  | nz | z | nc | c | po | pe | p | m
  deriving DecidableEq, Repr

/-- The operations of a field aaa (30_encoding.md R82). -/
inductive AluOp where
  | add | adc | sub | sbb | ana | xra | ora | cmp
  deriving DecidableEq, Repr

/-- The instructions: one constructor per row of spec/opcode_table.json. `n` is an imm8, `nn` an
imm16 (30_encoding.md R83). Those with an immediate stand first, in the table's order, then the one-byte instructions, in the
table's order (Lean's compiler numbers at most 245 constructors that have fields). The twelve undocumented duplicates (R86) carry their opcode byte in their name. -/
inductive Instr where
  /-- LXI B,d16 (0x01), R105. -/
  | lxiB (nn : Word)
  /-- MVI B,d8 (0x06), R103. -/
  | mviB (n : Byte)
  /-- MVI C,d8 (0x0E), R103. -/
  | mviC (n : Byte)
  /-- LXI D,d16 (0x11), R105. -/
  | lxiD (nn : Word)
  /-- MVI D,d8 (0x16), R103. -/
  | mviD (n : Byte)
  /-- MVI E,d8 (0x1E), R103. -/
  | mviE (n : Byte)
  /-- LXI H,d16 (0x21), R105. -/
  | lxiH (nn : Word)
  /-- SHLD a16 (0x22), R109. -/
  | shld (nn : Word)
  /-- MVI H,d8 (0x26), R103. -/
  | mviH (n : Byte)
  /-- LHLD a16 (0x2A), R108. -/
  | lhld (nn : Word)
  /-- MVI L,d8 (0x2E), R103. -/
  | mviL (n : Byte)
  /-- LXI SP,d16 (0x31), R105. -/
  | lxiSp (nn : Word)
  /-- STA a16 (0x32), R107. -/
  | sta (nn : Word)
  /-- MVI M,d8 (0x36), R104. -/
  | mviM (n : Byte)
  /-- LDA a16 (0x3A), R106. -/
  | lda (nn : Word)
  /-- MVI A,d8 (0x3E), R103. -/
  | mviA (n : Byte)
  /-- JNZ a16 (0xC2), R201. -/
  | jnz (nn : Word)
  /-- JMP a16 (0xC3), R200. -/
  | jmp (nn : Word)
  /-- CNZ a16 (0xC4), R203. -/
  | cnz (nn : Word)
  /-- ADI d8 (0xC6), R142. -/
  | adi (n : Byte)
  /-- JZ a16 (0xCA), R201. -/
  | jz (nn : Word)
  /-- JMP* a16 (0xCB), R208. -/
  | jmpCB (nn : Word)
  /-- CZ a16 (0xCC), R203. -/
  | cz (nn : Word)
  /-- CALL a16 (0xCD), R202. -/
  | call (nn : Word)
  /-- ACI d8 (0xCE), R145. -/
  | aci (n : Byte)
  /-- JNC a16 (0xD2), R201. -/
  | jnc (nn : Word)
  /-- OUT d8 (0xD3), R265. -/
  | outPort (n : Byte)
  /-- CNC a16 (0xD4), R203. -/
  | cnc (nn : Word)
  /-- SUI d8 (0xD6), R148. -/
  | sui (n : Byte)
  /-- JC a16 (0xDA), R201. -/
  | jc (nn : Word)
  /-- IN d8 (0xDB), R261. -/
  | inPort (n : Byte)
  /-- CC a16 (0xDC), R203. -/
  | cc (nn : Word)
  /-- CALL* a16 (0xDD), R209. -/
  | callDD (nn : Word)
  /-- SBI d8 (0xDE), R151. -/
  | sbi (n : Byte)
  /-- JPO a16 (0xE2), R201. -/
  | jpo (nn : Word)
  /-- CPO a16 (0xE4), R203. -/
  | cpo (nn : Word)
  /-- ANI d8 (0xE6), R172. -/
  | ani (n : Byte)
  /-- JPE a16 (0xEA), R201. -/
  | jpe (nn : Word)
  /-- CPE a16 (0xEC), R203. -/
  | cpe (nn : Word)
  /-- CALL* a16 (0xED), R209. -/
  | callED (nn : Word)
  /-- XRI d8 (0xEE), R175. -/
  | xri (n : Byte)
  /-- JP a16 (0xF2), R201. -/
  | jp (nn : Word)
  /-- CP a16 (0xF4), R203. -/
  | cp (nn : Word)
  /-- ORI d8 (0xF6), R178. -/
  | ori (n : Byte)
  /-- JM a16 (0xFA), R201. -/
  | jm (nn : Word)
  /-- CM a16 (0xFC), R203. -/
  | cm (nn : Word)
  /-- CALL* a16 (0xFD), R209. -/
  | callFD (nn : Word)
  /-- CPI d8 (0xFE), R181. -/
  | cpi (n : Byte)
  /-- NOP (0x00), R240. -/
  | nop
  /-- STAX B (0x02), R111. -/
  | staxB
  /-- INX B (0x03), R156. -/
  | inxB
  /-- INR B (0x04), R152. -/
  | inrB
  /-- DCR B (0x05), R154. -/
  | dcrB
  /-- RLC (0x07), R182. -/
  | rlc
  /-- NOP* (0x08), R241. -/
  | nop08
  /-- DAD B (0x09), R158. -/
  | dadB
  /-- LDAX B (0x0A), R110. -/
  | ldaxB
  /-- DCX B (0x0B), R157. -/
  | dcxB
  /-- INR C (0x0C), R152. -/
  | inrC
  /-- DCR C (0x0D), R154. -/
  | dcrC
  /-- RRC (0x0F), R183. -/
  | rrc
  /-- NOP* (0x10), R241. -/
  | nop10
  /-- STAX D (0x12), R111. -/
  | staxD
  /-- INX D (0x13), R156. -/
  | inxD
  /-- INR D (0x14), R152. -/
  | inrD
  /-- DCR D (0x15), R154. -/
  | dcrD
  /-- RAL (0x17), R184. -/
  | ral
  /-- NOP* (0x18), R241. -/
  | nop18
  /-- DAD D (0x19), R158. -/
  | dadD
  /-- LDAX D (0x1A), R110. -/
  | ldaxD
  /-- DCX D (0x1B), R157. -/
  | dcxD
  /-- INR E (0x1C), R152. -/
  | inrE
  /-- DCR E (0x1D), R154. -/
  | dcrE
  /-- RAR (0x1F), R185. -/
  | rar
  /-- NOP* (0x20), R241. -/
  | nop20
  /-- INX H (0x23), R156. -/
  | inxH
  /-- INR H (0x24), R152. -/
  | inrH
  /-- DCR H (0x25), R154. -/
  | dcrH
  /-- DAA (0x27), R159. -/
  | daa
  /-- NOP* (0x28), R241. -/
  | nop28
  /-- DAD H (0x29), R158. -/
  | dadH
  /-- DCX H (0x2B), R157. -/
  | dcxH
  /-- INR L (0x2C), R152. -/
  | inrL
  /-- DCR L (0x2D), R154. -/
  | dcrL
  /-- CMA (0x2F), R186. -/
  | cma
  /-- NOP* (0x30), R241. -/
  | nop30
  /-- INX SP (0x33), R156. -/
  | inxSp
  /-- INR M (0x34), R153. -/
  | inrM
  /-- DCR M (0x35), R155. -/
  | dcrM
  /-- STC (0x37), R188. -/
  | stc
  /-- NOP* (0x38), R241. -/
  | nop38
  /-- DAD SP (0x39), R158. -/
  | dadSp
  /-- DCX SP (0x3B), R157. -/
  | dcxSp
  /-- INR A (0x3C), R152. -/
  | inrA
  /-- DCR A (0x3D), R154. -/
  | dcrA
  /-- CMC (0x3F), R187. -/
  | cmc
  /-- MOV B,B (0x40), R100. -/
  | movBB
  /-- MOV B,C (0x41), R100. -/
  | movBC
  /-- MOV B,D (0x42), R100. -/
  | movBD
  /-- MOV B,E (0x43), R100. -/
  | movBE
  /-- MOV B,H (0x44), R100. -/
  | movBH
  /-- MOV B,L (0x45), R100. -/
  | movBL
  /-- MOV B,M (0x46), R101. -/
  | movBM
  /-- MOV B,A (0x47), R100. -/
  | movBA
  /-- MOV C,B (0x48), R100. -/
  | movCB
  /-- MOV C,C (0x49), R100. -/
  | movCC
  /-- MOV C,D (0x4A), R100. -/
  | movCD
  /-- MOV C,E (0x4B), R100. -/
  | movCE
  /-- MOV C,H (0x4C), R100. -/
  | movCH
  /-- MOV C,L (0x4D), R100. -/
  | movCL
  /-- MOV C,M (0x4E), R101. -/
  | movCM
  /-- MOV C,A (0x4F), R100. -/
  | movCA
  /-- MOV D,B (0x50), R100. -/
  | movDB
  /-- MOV D,C (0x51), R100. -/
  | movDC
  /-- MOV D,D (0x52), R100. -/
  | movDD
  /-- MOV D,E (0x53), R100. -/
  | movDE
  /-- MOV D,H (0x54), R100. -/
  | movDH
  /-- MOV D,L (0x55), R100. -/
  | movDL
  /-- MOV D,M (0x56), R101. -/
  | movDM
  /-- MOV D,A (0x57), R100. -/
  | movDA
  /-- MOV E,B (0x58), R100. -/
  | movEB
  /-- MOV E,C (0x59), R100. -/
  | movEC
  /-- MOV E,D (0x5A), R100. -/
  | movED
  /-- MOV E,E (0x5B), R100. -/
  | movEE
  /-- MOV E,H (0x5C), R100. -/
  | movEH
  /-- MOV E,L (0x5D), R100. -/
  | movEL
  /-- MOV E,M (0x5E), R101. -/
  | movEM
  /-- MOV E,A (0x5F), R100. -/
  | movEA
  /-- MOV H,B (0x60), R100. -/
  | movHB
  /-- MOV H,C (0x61), R100. -/
  | movHC
  /-- MOV H,D (0x62), R100. -/
  | movHD
  /-- MOV H,E (0x63), R100. -/
  | movHE
  /-- MOV H,H (0x64), R100. -/
  | movHH
  /-- MOV H,L (0x65), R100. -/
  | movHL
  /-- MOV H,M (0x66), R101. -/
  | movHM
  /-- MOV H,A (0x67), R100. -/
  | movHA
  /-- MOV L,B (0x68), R100. -/
  | movLB
  /-- MOV L,C (0x69), R100. -/
  | movLC
  /-- MOV L,D (0x6A), R100. -/
  | movLD
  /-- MOV L,E (0x6B), R100. -/
  | movLE
  /-- MOV L,H (0x6C), R100. -/
  | movLH
  /-- MOV L,L (0x6D), R100. -/
  | movLL
  /-- MOV L,M (0x6E), R101. -/
  | movLM
  /-- MOV L,A (0x6F), R100. -/
  | movLA
  /-- MOV M,B (0x70), R102. -/
  | movMB
  /-- MOV M,C (0x71), R102. -/
  | movMC
  /-- MOV M,D (0x72), R102. -/
  | movMD
  /-- MOV M,E (0x73), R102. -/
  | movME
  /-- MOV M,H (0x74), R102. -/
  | movMH
  /-- MOV M,L (0x75), R102. -/
  | movML
  /-- HLT (0x76), R244. -/
  | hlt
  /-- MOV M,A (0x77), R102. -/
  | movMA
  /-- MOV A,B (0x78), R100. -/
  | movAB
  /-- MOV A,C (0x79), R100. -/
  | movAC
  /-- MOV A,D (0x7A), R100. -/
  | movAD
  /-- MOV A,E (0x7B), R100. -/
  | movAE
  /-- MOV A,H (0x7C), R100. -/
  | movAH
  /-- MOV A,L (0x7D), R100. -/
  | movAL
  /-- MOV A,M (0x7E), R101. -/
  | movAM
  /-- MOV A,A (0x7F), R100. -/
  | movAA
  /-- ADD B (0x80), R140. -/
  | addB
  /-- ADD C (0x81), R140. -/
  | addC
  /-- ADD D (0x82), R140. -/
  | addD
  /-- ADD E (0x83), R140. -/
  | addE
  /-- ADD H (0x84), R140. -/
  | addH
  /-- ADD L (0x85), R140. -/
  | addL
  /-- ADD M (0x86), R141. -/
  | addM
  /-- ADD A (0x87), R140. -/
  | addA
  /-- ADC B (0x88), R143. -/
  | adcB
  /-- ADC C (0x89), R143. -/
  | adcC
  /-- ADC D (0x8A), R143. -/
  | adcD
  /-- ADC E (0x8B), R143. -/
  | adcE
  /-- ADC H (0x8C), R143. -/
  | adcH
  /-- ADC L (0x8D), R143. -/
  | adcL
  /-- ADC M (0x8E), R144. -/
  | adcM
  /-- ADC A (0x8F), R143. -/
  | adcA
  /-- SUB B (0x90), R146. -/
  | subB
  /-- SUB C (0x91), R146. -/
  | subC
  /-- SUB D (0x92), R146. -/
  | subD
  /-- SUB E (0x93), R146. -/
  | subE
  /-- SUB H (0x94), R146. -/
  | subH
  /-- SUB L (0x95), R146. -/
  | subL
  /-- SUB M (0x96), R147. -/
  | subM
  /-- SUB A (0x97), R146. -/
  | subA
  /-- SBB B (0x98), R149. -/
  | sbbB
  /-- SBB C (0x99), R149. -/
  | sbbC
  /-- SBB D (0x9A), R149. -/
  | sbbD
  /-- SBB E (0x9B), R149. -/
  | sbbE
  /-- SBB H (0x9C), R149. -/
  | sbbH
  /-- SBB L (0x9D), R149. -/
  | sbbL
  /-- SBB M (0x9E), R150. -/
  | sbbM
  /-- SBB A (0x9F), R149. -/
  | sbbA
  /-- ANA B (0xA0), R170. -/
  | anaB
  /-- ANA C (0xA1), R170. -/
  | anaC
  /-- ANA D (0xA2), R170. -/
  | anaD
  /-- ANA E (0xA3), R170. -/
  | anaE
  /-- ANA H (0xA4), R170. -/
  | anaH
  /-- ANA L (0xA5), R170. -/
  | anaL
  /-- ANA M (0xA6), R171. -/
  | anaM
  /-- ANA A (0xA7), R170. -/
  | anaA
  /-- XRA B (0xA8), R173. -/
  | xraB
  /-- XRA C (0xA9), R173. -/
  | xraC
  /-- XRA D (0xAA), R173. -/
  | xraD
  /-- XRA E (0xAB), R173. -/
  | xraE
  /-- XRA H (0xAC), R173. -/
  | xraH
  /-- XRA L (0xAD), R173. -/
  | xraL
  /-- XRA M (0xAE), R174. -/
  | xraM
  /-- XRA A (0xAF), R173. -/
  | xraA
  /-- ORA B (0xB0), R176. -/
  | oraB
  /-- ORA C (0xB1), R176. -/
  | oraC
  /-- ORA D (0xB2), R176. -/
  | oraD
  /-- ORA E (0xB3), R176. -/
  | oraE
  /-- ORA H (0xB4), R176. -/
  | oraH
  /-- ORA L (0xB5), R176. -/
  | oraL
  /-- ORA M (0xB6), R177. -/
  | oraM
  /-- ORA A (0xB7), R176. -/
  | oraA
  /-- CMP B (0xB8), R179. -/
  | cmpB
  /-- CMP C (0xB9), R179. -/
  | cmpC
  /-- CMP D (0xBA), R179. -/
  | cmpD
  /-- CMP E (0xBB), R179. -/
  | cmpE
  /-- CMP H (0xBC), R179. -/
  | cmpH
  /-- CMP L (0xBD), R179. -/
  | cmpL
  /-- CMP M (0xBE), R180. -/
  | cmpM
  /-- CMP A (0xBF), R179. -/
  | cmpA
  /-- RNZ (0xC0), R205. -/
  | rnz
  /-- POP B (0xC1), R233. -/
  | popB
  /-- PUSH B (0xC5), R231. -/
  | pushB
  /-- RST 0 (0xC7), R206. -/
  | rst0
  /-- RZ (0xC8), R205. -/
  | rz
  /-- RET (0xC9), R204. -/
  | ret
  /-- RST 1 (0xCF), R206. -/
  | rst1
  /-- RNC (0xD0), R205. -/
  | rnc
  /-- POP D (0xD1), R233. -/
  | popD
  /-- PUSH D (0xD5), R231. -/
  | pushD
  /-- RST 2 (0xD7), R206. -/
  | rst2
  /-- RC (0xD8), R205. -/
  | rc
  /-- RET* (0xD9), R210. -/
  | retD9
  /-- RST 3 (0xDF), R206. -/
  | rst3
  /-- RPO (0xE0), R205. -/
  | rpo
  /-- POP H (0xE1), R233. -/
  | popH
  /-- XTHL (0xE3), R235. -/
  | xthl
  /-- PUSH H (0xE5), R231. -/
  | pushH
  /-- RST 4 (0xE7), R206. -/
  | rst4
  /-- RPE (0xE8), R205. -/
  | rpe
  /-- PCHL (0xE9), R207. -/
  | pchl
  /-- XCHG (0xEB), R112. -/
  | xchg
  /-- RST 5 (0xEF), R206. -/
  | rst5
  /-- RP (0xF0), R205. -/
  | rp
  /-- POP PSW (0xF1), R234. -/
  | popPsw
  /-- DI (0xF3), R243. -/
  | di
  /-- PUSH PSW (0xF5), R232. -/
  | pushPsw
  /-- RST 6 (0xF7), R206. -/
  | rst6
  /-- RM (0xF8), R205. -/
  | rm
  /-- SPHL (0xF9), R236. -/
  | sphl
  /-- EI (0xFB), R242. -/
  | ei
  /-- RST 7 (0xFF), R206. -/
  | rst7
  deriving DecidableEq, Repr

/-- What the host can send at a frame boundary (60_exceptions.md R340, R341, R343). -/
inductive HostEvent where
  /-- Set or clear bit `bit` of `IOPorts[port]` (R340). -/
  | sendInput (port bit : Nat) (value : Bool)
  /-- Toggle Paused (key P). -/
  | togglePause
  /-- Reset (key R). -/
  | reset
  /-- SaveState (key 0). -/
  | save
  /-- LoadState (key 9) of the snapshot made `age` saves ago, 0 being the latest; those of earlier runs are the oldest (log entry 30). -/
  | load (age : Nat)
  /-- LoadState of bytes that no SaveState produced (R343). -/
  | loadCorrupt
  /-- Window close or a signal (R334). -/
  | shutdown
  deriving DecidableEq, Repr

end Sys2Proof
end

