-- ==== Sys2Proof/WellFormed.lean ====
section
/-! DEFINITION. Well-formed syntax. -/

namespace Sys2Proof

/-- Every term of `Instr` is well-formed: an operand is a byte or a word of exactly the width its encoding gives it, a register
name is part of the constructor, and no encoding is reserved (30_encoding.md R87). So there is no check to make. -/
def Instr.wellFormed (_i : Instr) : Bool := true

/-- `SendInput` names one of the eight latches and one of its eight bits, otherwise the host has no such move
(60_exceptions.md R340; 92_eei_decisions.md D24). Every other event is well-formed. -/
def HostEvent.wellFormed : HostEvent → Bool
  | .sendInput port bit _ => decide (port < 8) && decide (bit < 8)
  | .togglePause => true
  | .reset => true
  | .save => true
  | .load _ => true
  | .loadCorrupt => true
  | .shutdown => true

end Sys2Proof
end

