-- ==== Sys2Proof/Decode.lean ====
section
/-! DEFINITION. Decoding and encoding (spec/30_encoding.md). The decoder reads the fields of R81 and R82 bit by bit; the encoder is
written from the opcode bytes of R85 and spec/opcode_table.json. That the two agree is stated, not assumed. -/

namespace Sys2Proof

/-! ### The formats of R81, as functions from their fields to instructions -/

/-- `01dddsss` with ddd and sss other than 6: MOV r1,r2 (R100). -/
def Instr.movReg (dst src : Reg) : Instr :=
  match dst, src with
  | .b, .b => .movBB | .b, .c => .movBC | .b, .d => .movBD | .b, .e => .movBE | .b, .h => .movBH | .b, .l => .movBL | .b, .a => .movBA
  | .c, .b => .movCB | .c, .c => .movCC | .c, .d => .movCD | .c, .e => .movCE | .c, .h => .movCH | .c, .l => .movCL | .c, .a => .movCA
  | .d, .b => .movDB | .d, .c => .movDC | .d, .d => .movDD | .d, .e => .movDE | .d, .h => .movDH | .d, .l => .movDL | .d, .a => .movDA
  | .e, .b => .movEB | .e, .c => .movEC | .e, .d => .movED | .e, .e => .movEE | .e, .h => .movEH | .e, .l => .movEL | .e, .a => .movEA
  | .h, .b => .movHB | .h, .c => .movHC | .h, .d => .movHD | .h, .e => .movHE | .h, .h => .movHH | .h, .l => .movHL | .h, .a => .movHA
  | .l, .b => .movLB | .l, .c => .movLC | .l, .d => .movLD | .l, .e => .movLE | .l, .h => .movLH | .l, .l => .movLL | .l, .a => .movLA
  | .a, .b => .movAB | .a, .c => .movAC | .a, .d => .movAD | .a, .e => .movAE | .a, .h => .movAH | .a, .l => .movAL | .a, .a => .movAA

/-- `01ddd110`: MOV r,M (R101). -/
def Instr.movFromM (dst : Reg) : Instr :=
  match dst with
  | .b => .movBM
  | .c => .movCM
  | .d => .movDM
  | .e => .movEM
  | .h => .movHM
  | .l => .movLM
  | .a => .movAM

/-- `01110sss`: MOV M,r (R102). -/
def Instr.movToM (src : Reg) : Instr :=
  match src with
  | .b => .movMB
  | .c => .movMC
  | .d => .movMD
  | .e => .movME
  | .h => .movMH
  | .l => .movML
  | .a => .movMA

/-- `00ddd110` n: MVI r,n (R103). -/
def Instr.mviReg (dst : Reg) (n : Byte) : Instr :=
  match dst with
  | .b => .mviB n
  | .c => .mviC n
  | .d => .mviD n
  | .e => .mviE n
  | .h => .mviH n
  | .l => .mviL n
  | .a => .mviA n

/-- `00ddd100`: INR r (R152). -/
def Instr.inrReg (dst : Reg) : Instr :=
  match dst with
  | .b => .inrB
  | .c => .inrC
  | .d => .inrD
  | .e => .inrE
  | .h => .inrH
  | .l => .inrL
  | .a => .inrA

/-- `00ddd101`: DCR r (R154). -/
def Instr.dcrReg (dst : Reg) : Instr :=
  match dst with
  | .b => .dcrB
  | .c => .dcrC
  | .d => .dcrD
  | .e => .dcrE
  | .h => .dcrH
  | .l => .dcrL
  | .a => .dcrA

/-- `10aaasss` with sss other than 6: the register forms of the ALU operations (R140, R143, R146, R149, R170, R173, R176, R179). -/
def Instr.aluReg (op : AluOp) (src : Reg) : Instr :=
  match op, src with
  | .add, .b => .addB | .add, .c => .addC | .add, .d => .addD | .add, .e => .addE | .add, .h => .addH | .add, .l => .addL | .add, .a => .addA
  | .adc, .b => .adcB | .adc, .c => .adcC | .adc, .d => .adcD | .adc, .e => .adcE | .adc, .h => .adcH | .adc, .l => .adcL | .adc, .a => .adcA
  | .sub, .b => .subB | .sub, .c => .subC | .sub, .d => .subD | .sub, .e => .subE | .sub, .h => .subH | .sub, .l => .subL | .sub, .a => .subA
  | .sbb, .b => .sbbB | .sbb, .c => .sbbC | .sbb, .d => .sbbD | .sbb, .e => .sbbE | .sbb, .h => .sbbH | .sbb, .l => .sbbL | .sbb, .a => .sbbA
  | .ana, .b => .anaB | .ana, .c => .anaC | .ana, .d => .anaD | .ana, .e => .anaE | .ana, .h => .anaH | .ana, .l => .anaL | .ana, .a => .anaA
  | .xra, .b => .xraB | .xra, .c => .xraC | .xra, .d => .xraD | .xra, .e => .xraE | .xra, .h => .xraH | .xra, .l => .xraL | .xra, .a => .xraA
  | .ora, .b => .oraB | .ora, .c => .oraC | .ora, .d => .oraD | .ora, .e => .oraE | .ora, .h => .oraH | .ora, .l => .oraL | .ora, .a => .oraA
  | .cmp, .b => .cmpB | .cmp, .c => .cmpC | .cmp, .d => .cmpD | .cmp, .e => .cmpE | .cmp, .h => .cmpH | .cmp, .l => .cmpL | .cmp, .a => .cmpA

/-- `10aaa110`: the memory forms of the ALU operations. -/
def Instr.aluM (op : AluOp) : Instr :=
  match op with
  | .add => .addM
  | .adc => .adcM
  | .sub => .subM
  | .sbb => .sbbM
  | .ana => .anaM
  | .xra => .xraM
  | .ora => .oraM
  | .cmp => .cmpM

/-- `11aaa110` n: the immediate forms of the ALU operations. -/
def Instr.aluImm (op : AluOp) (n : Byte) : Instr :=
  match op with
  | .add => .adi n
  | .adc => .aci n
  | .sub => .sui n
  | .sbb => .sbi n
  | .ana => .ani n
  | .xra => .xri n
  | .ora => .ori n
  | .cmp => .cpi n

/-- `00pp0001` lo hi: LXI rp,nn (R105). -/
def Instr.lxi (p : Pair) (nn : Word) : Instr :=
  match p with
  | .bc => .lxiB nn
  | .de => .lxiD nn
  | .hl => .lxiH nn
  | .sp => .lxiSp nn

/-- `00pp1001`: DAD rp (R158). -/
def Instr.dad (p : Pair) : Instr :=
  match p with
  | .bc => .dadB
  | .de => .dadD
  | .hl => .dadH
  | .sp => .dadSp

/-- `00pp0011`: INX rp (R156). -/
def Instr.inx (p : Pair) : Instr :=
  match p with
  | .bc => .inxB
  | .de => .inxD
  | .hl => .inxH
  | .sp => .inxSp

/-- `00pp1011`: DCX rp (R157). -/
def Instr.dcx (p : Pair) : Instr :=
  match p with
  | .bc => .dcxB
  | .de => .dcxD
  | .hl => .dcxH
  | .sp => .dcxSp

/-- `000p1010`: LDAX rp (R110). -/
def Instr.ldax (p : IndexPair) : Instr :=
  match p with
  | .bc => .ldaxB
  | .de => .ldaxD

/-- `000p0010`: STAX rp (R111). -/
def Instr.stax (p : IndexPair) : Instr :=
  match p with
  | .bc => .staxB
  | .de => .staxD

/-- `11pp0101`, pp other than 3: PUSH rp (R231). -/
def Instr.push (p : StackPair) : Instr :=
  match p with
  | .bc => .pushB
  | .de => .pushD
  | .hl => .pushH

/-- `11pp0001`, pp other than 3: POP rp (R233). -/
def Instr.pop (p : StackPair) : Instr :=
  match p with
  | .bc => .popB
  | .de => .popD
  | .hl => .popH

/-- `11ccc010` lo hi: Jcc nn (R201). -/
def Instr.jcc (cc : Cond) (nn : Word) : Instr :=
  match cc with
  | .nz => .jnz nn
  | .z => .jz nn
  | .nc => .jnc nn
  | .c => .jc nn
  | .po => .jpo nn
  | .pe => .jpe nn
  | .p => .jp nn
  | .m => .jm nn

/-- `11ccc100` lo hi: Ccc nn (R203). -/
def Instr.ccc (cc : Cond) (nn : Word) : Instr :=
  match cc with
  | .nz => .cnz nn
  | .z => .cz nn
  | .nc => .cnc nn
  | .c => .cc nn
  | .po => .cpo nn
  | .pe => .cpe nn
  | .p => .cp nn
  | .m => .cm nn

/-- `11ccc000`: Rcc (R205). -/
def Instr.rcc (cc : Cond) : Instr :=
  match cc with
  | .nz => .rnz
  | .z => .rz
  | .nc => .rnc
  | .c => .rc
  | .po => .rpo
  | .pe => .rpe
  | .p => .rp
  | .m => .rm

/-- `11nnn111`: RST n (R206). -/
def Instr.rst (n : BitVec 3) : Instr :=
  match n[2], n[1], n[0] with
  | false, false, false => .rst0
  | false, false, true => .rst1
  | false, true, false => .rst2
  | false, true, true => .rst3
  | true, false, false => .rst4
  | true, false, true => .rst5
  | true, true, false => .rst6
  | true, true, true => .rst7

/-! ### The fields of R82 -/

/-- A field ddd or sss: a register, or `none` for 6, the memory operand M (R24). -/
def regField (f : BitVec 3) : Option Reg :=
  match f[2], f[1], f[0] with
  | false, false, false => some .b
  | false, false, true => some .c
  | false, true, false => some .d
  | false, true, true => some .e
  | true, false, false => some .h
  | true, false, true => some .l
  | true, true, false => none
  | true, true, true => some .a

/-- A field ccc (R29). -/
def condField (f : BitVec 3) : Cond :=
  match f[2], f[1], f[0] with
  | false, false, false => .nz
  | false, false, true => .z
  | false, true, false => .nc
  | false, true, true => .c
  | true, false, false => .po
  | true, false, true => .pe
  | true, true, false => .p
  | true, true, true => .m

/-- A field aaa (R82). -/
def aluField (f : BitVec 3) : AluOp :=
  match f[2], f[1], f[0] with
  | false, false, false => .add
  | false, false, true => .adc
  | false, true, false => .sub
  | false, true, true => .sbb
  | true, false, false => .ana
  | true, false, true => .xra
  | true, true, false => .ora
  | true, true, true => .cmp

/-- A field pp of LXI, DAD, INX and DCX (R25). -/
def pairField (f : BitVec 2) : Pair :=
  match f[1], f[0] with
  | false, false => .bc
  | false, true => .de
  | true, false => .hl
  | true, true => .sp

/-- A field pp of PUSH and POP: a pair, or `none` for 3, PSW (R25). -/
def stackPairField (f : BitVec 2) : Option StackPair :=
  match f[1], f[0] with
  | false, false => some .bc
  | false, true => some .de
  | true, false => some .hl
  | true, true => none

/-! ### Decoding -/

/-- The length in bytes that the opcode byte alone fixes (R80, R81). -/
def opcodeLength (op : Byte) : Nat :=
  match op[7], op[6] with
  | false, false =>
    match op[2], op[1], op[0] with
    | false, false, true => if op[3] then 1 else 3
    | false, true, false => if op[5] then 3 else 1
    | true, true, false => 2
    | _, _, _ => 1
  | false, true => 1
  | true, false => 1
  | true, true =>
    match op[2], op[1], op[0] with
    | false, true, false => 3
    | true, false, false => 3
    | true, true, false => 2
    | false, true, true =>
      match op[5], op[4] with
      | false, false => 3
      | false, true => 2
      | _, _ => 1
    | true, false, true => if op[3] then 3 else 1
    | _, _, _ => 1

/-- The opcodes `00------` (R81). -/
def decodeQuarter0 (op b1 : Byte) (nn : Word) : Instr :=
  let ddd := op.extractLsb' 3 3
  let pp := op.extractLsb' 4 2
  match op[2], op[1], op[0] with
  | false, false, false =>
    match op[5], op[4], op[3] with
    | false, false, false => .nop
    | false, false, true => .nop08
    | false, true, false => .nop10
    | false, true, true => .nop18
    | true, false, false => .nop20
    | true, false, true => .nop28
    | true, true, false => .nop30
    | true, true, true => .nop38
  | false, false, true => if op[3] then .dad (pairField pp) else .lxi (pairField pp) nn
  | false, true, false =>
    match op[5], op[4], op[3] with
    | false, false, false => .stax .bc
    | false, false, true => .ldax .bc
    | false, true, false => .stax .de
    | false, true, true => .ldax .de
    | true, false, false => .shld nn
    | true, false, true => .lhld nn
    | true, true, false => .sta nn
    | true, true, true => .lda nn
  | false, true, true => if op[3] then .dcx (pairField pp) else .inx (pairField pp)
  | true, false, false =>
    match regField ddd with
    | some r => .inrReg r
    | none => .inrM
  | true, false, true =>
    match regField ddd with
    | some r => .dcrReg r
    | none => .dcrM
  | true, true, false =>
    match regField ddd with
    | some r => .mviReg r b1
    | none => .mviM b1
  | true, true, true =>
    match op[5], op[4], op[3] with
    | false, false, false => .rlc
    | false, false, true => .rrc
    | false, true, false => .ral
    | false, true, true => .rar
    | true, false, false => .daa
    | true, false, true => .cma
    | true, true, false => .stc
    | true, true, true => .cmc

/-- The opcodes `01dddsss`: MOV, and HLT in the place of MOV M,M (R81, R244). -/
def decodeQuarter1 (op : Byte) : Instr :=
  match regField (op.extractLsb' 3 3), regField (op.extractLsb' 0 3) with
  | some dst, some src => .movReg dst src
  | some dst, none => .movFromM dst
  | none, some src => .movToM src
  | none, none => .hlt

/-- The opcodes `10aaasss` (R81). -/
def decodeQuarter2 (op : Byte) : Instr :=
  match regField (op.extractLsb' 0 3) with
  | some src => .aluReg (aluField (op.extractLsb' 3 3)) src
  | none => .aluM (aluField (op.extractLsb' 3 3))

/-- The opcodes `11------` (R81, R86). -/
def decodeQuarter3 (op b1 : Byte) (nn : Word) : Instr :=
  let yyy := op.extractLsb' 3 3
  let pp := op.extractLsb' 4 2
  match op[2], op[1], op[0] with
  | false, false, false => .rcc (condField yyy)
  | false, false, true =>
    if op[3] then
      match op[5], op[4] with
      | false, false => .ret
      | false, true => .retD9
      | true, false => .pchl
      | true, true => .sphl
    else
      match stackPairField pp with
      | some p => .pop p
      | none => .popPsw
  | false, true, false => .jcc (condField yyy) nn
  | false, true, true =>
    match op[5], op[4], op[3] with
    | false, false, false => .jmp nn
    | false, false, true => .jmpCB nn
    | false, true, false => .outPort b1
    | false, true, true => .inPort b1
    | true, false, false => .xthl
    | true, false, true => .xchg
    | true, true, false => .di
    | true, true, true => .ei
  | true, false, false => .ccc (condField yyy) nn
  | true, false, true =>
    if op[3] then
      match op[5], op[4] with
      | false, false => .call nn
      | false, true => .callDD nn
      | true, false => .callED nn
      | true, true => .callFD nn
    else
      match stackPairField pp with
      | some p => .push p
      | none => .pushPsw
  | true, true, false => .aluImm (aluField yyy) b1
  | true, true, true => .rst yyy

/-- The instruction of an opcode byte and the two bytes behind it, as many of them as its length takes. All 256 opcodes have
one (R85, R87); the immediate word is little-endian (R83). -/
def decodeOpcode (op b1 b2 : Byte) : Instr :=
  match op[7], op[6] with
  | false, false => decodeQuarter0 op b1 (Word.ofBytes b2 b1)
  | false, true => decodeQuarter1 op
  | true, false => decodeQuarter2 op
  | true, true => decodeQuarter3 op b1 (Word.ofBytes b2 b1)

/-- Why bytes are no instruction. No opcode is illegal (R87), so only bytes that end too early are refused. -/
inductive DecodeError where
  /-- There is no byte at all. -/
  | noOpcode
  /-- The bytes end before the operand bytes that this opcode takes. -/
  | truncated (op : Byte)
  deriving DecidableEq, Repr

/-- Decodes the instruction at the front of a list of bytes and gives the bytes behind it (R80, R84). -/
def decode : List Byte → Except DecodeError (Instr × List Byte)
  | [] => .error .noOpcode
  | op :: rest =>
    match opcodeLength op, rest with
    | 1, rest => .ok (decodeOpcode op 0 0, rest)
    | 2, b1 :: rest => .ok (decodeOpcode op b1 0, rest)
    | 3, b1 :: b2 :: rest => .ok (decodeOpcode op b1 b2, rest)
    | _, _ => .error (.truncated op)

/-! ### Encoding -/

/-- The bytes of an instruction: its opcode byte (R85, spec/opcode_table.json), then its immediate, low byte first (R83). -/
def encode : Instr → List Byte
  | .nop => [0x00]
  | .lxiB nn => [0x01, nn.lo, nn.hi]
  | .staxB => [0x02]
  | .inxB => [0x03]
  | .inrB => [0x04]
  | .dcrB => [0x05]
  | .mviB n => [0x06, n]
  | .rlc => [0x07]
  | .nop08 => [0x08]
  | .dadB => [0x09]
  | .ldaxB => [0x0A]
  | .dcxB => [0x0B]
  | .inrC => [0x0C]
  | .dcrC => [0x0D]
  | .mviC n => [0x0E, n]
  | .rrc => [0x0F]
  | .nop10 => [0x10]
  | .lxiD nn => [0x11, nn.lo, nn.hi]
  | .staxD => [0x12]
  | .inxD => [0x13]
  | .inrD => [0x14]
  | .dcrD => [0x15]
  | .mviD n => [0x16, n]
  | .ral => [0x17]
  | .nop18 => [0x18]
  | .dadD => [0x19]
  | .ldaxD => [0x1A]
  | .dcxD => [0x1B]
  | .inrE => [0x1C]
  | .dcrE => [0x1D]
  | .mviE n => [0x1E, n]
  | .rar => [0x1F]
  | .nop20 => [0x20]
  | .lxiH nn => [0x21, nn.lo, nn.hi]
  | .shld nn => [0x22, nn.lo, nn.hi]
  | .inxH => [0x23]
  | .inrH => [0x24]
  | .dcrH => [0x25]
  | .mviH n => [0x26, n]
  | .daa => [0x27]
  | .nop28 => [0x28]
  | .dadH => [0x29]
  | .lhld nn => [0x2A, nn.lo, nn.hi]
  | .dcxH => [0x2B]
  | .inrL => [0x2C]
  | .dcrL => [0x2D]
  | .mviL n => [0x2E, n]
  | .cma => [0x2F]
  | .nop30 => [0x30]
  | .lxiSp nn => [0x31, nn.lo, nn.hi]
  | .sta nn => [0x32, nn.lo, nn.hi]
  | .inxSp => [0x33]
  | .inrM => [0x34]
  | .dcrM => [0x35]
  | .mviM n => [0x36, n]
  | .stc => [0x37]
  | .nop38 => [0x38]
  | .dadSp => [0x39]
  | .lda nn => [0x3A, nn.lo, nn.hi]
  | .dcxSp => [0x3B]
  | .inrA => [0x3C]
  | .dcrA => [0x3D]
  | .mviA n => [0x3E, n]
  | .cmc => [0x3F]
  | .movBB => [0x40]
  | .movBC => [0x41]
  | .movBD => [0x42]
  | .movBE => [0x43]
  | .movBH => [0x44]
  | .movBL => [0x45]
  | .movBM => [0x46]
  | .movBA => [0x47]
  | .movCB => [0x48]
  | .movCC => [0x49]
  | .movCD => [0x4A]
  | .movCE => [0x4B]
  | .movCH => [0x4C]
  | .movCL => [0x4D]
  | .movCM => [0x4E]
  | .movCA => [0x4F]
  | .movDB => [0x50]
  | .movDC => [0x51]
  | .movDD => [0x52]
  | .movDE => [0x53]
  | .movDH => [0x54]
  | .movDL => [0x55]
  | .movDM => [0x56]
  | .movDA => [0x57]
  | .movEB => [0x58]
  | .movEC => [0x59]
  | .movED => [0x5A]
  | .movEE => [0x5B]
  | .movEH => [0x5C]
  | .movEL => [0x5D]
  | .movEM => [0x5E]
  | .movEA => [0x5F]
  | .movHB => [0x60]
  | .movHC => [0x61]
  | .movHD => [0x62]
  | .movHE => [0x63]
  | .movHH => [0x64]
  | .movHL => [0x65]
  | .movHM => [0x66]
  | .movHA => [0x67]
  | .movLB => [0x68]
  | .movLC => [0x69]
  | .movLD => [0x6A]
  | .movLE => [0x6B]
  | .movLH => [0x6C]
  | .movLL => [0x6D]
  | .movLM => [0x6E]
  | .movLA => [0x6F]
  | .movMB => [0x70]
  | .movMC => [0x71]
  | .movMD => [0x72]
  | .movME => [0x73]
  | .movMH => [0x74]
  | .movML => [0x75]
  | .hlt => [0x76]
  | .movMA => [0x77]
  | .movAB => [0x78]
  | .movAC => [0x79]
  | .movAD => [0x7A]
  | .movAE => [0x7B]
  | .movAH => [0x7C]
  | .movAL => [0x7D]
  | .movAM => [0x7E]
  | .movAA => [0x7F]
  | .addB => [0x80]
  | .addC => [0x81]
  | .addD => [0x82]
  | .addE => [0x83]
  | .addH => [0x84]
  | .addL => [0x85]
  | .addM => [0x86]
  | .addA => [0x87]
  | .adcB => [0x88]
  | .adcC => [0x89]
  | .adcD => [0x8A]
  | .adcE => [0x8B]
  | .adcH => [0x8C]
  | .adcL => [0x8D]
  | .adcM => [0x8E]
  | .adcA => [0x8F]
  | .subB => [0x90]
  | .subC => [0x91]
  | .subD => [0x92]
  | .subE => [0x93]
  | .subH => [0x94]
  | .subL => [0x95]
  | .subM => [0x96]
  | .subA => [0x97]
  | .sbbB => [0x98]
  | .sbbC => [0x99]
  | .sbbD => [0x9A]
  | .sbbE => [0x9B]
  | .sbbH => [0x9C]
  | .sbbL => [0x9D]
  | .sbbM => [0x9E]
  | .sbbA => [0x9F]
  | .anaB => [0xA0]
  | .anaC => [0xA1]
  | .anaD => [0xA2]
  | .anaE => [0xA3]
  | .anaH => [0xA4]
  | .anaL => [0xA5]
  | .anaM => [0xA6]
  | .anaA => [0xA7]
  | .xraB => [0xA8]
  | .xraC => [0xA9]
  | .xraD => [0xAA]
  | .xraE => [0xAB]
  | .xraH => [0xAC]
  | .xraL => [0xAD]
  | .xraM => [0xAE]
  | .xraA => [0xAF]
  | .oraB => [0xB0]
  | .oraC => [0xB1]
  | .oraD => [0xB2]
  | .oraE => [0xB3]
  | .oraH => [0xB4]
  | .oraL => [0xB5]
  | .oraM => [0xB6]
  | .oraA => [0xB7]
  | .cmpB => [0xB8]
  | .cmpC => [0xB9]
  | .cmpD => [0xBA]
  | .cmpE => [0xBB]
  | .cmpH => [0xBC]
  | .cmpL => [0xBD]
  | .cmpM => [0xBE]
  | .cmpA => [0xBF]
  | .rnz => [0xC0]
  | .popB => [0xC1]
  | .jnz nn => [0xC2, nn.lo, nn.hi]
  | .jmp nn => [0xC3, nn.lo, nn.hi]
  | .cnz nn => [0xC4, nn.lo, nn.hi]
  | .pushB => [0xC5]
  | .adi n => [0xC6, n]
  | .rst0 => [0xC7]
  | .rz => [0xC8]
  | .ret => [0xC9]
  | .jz nn => [0xCA, nn.lo, nn.hi]
  | .jmpCB nn => [0xCB, nn.lo, nn.hi]
  | .cz nn => [0xCC, nn.lo, nn.hi]
  | .call nn => [0xCD, nn.lo, nn.hi]
  | .aci n => [0xCE, n]
  | .rst1 => [0xCF]
  | .rnc => [0xD0]
  | .popD => [0xD1]
  | .jnc nn => [0xD2, nn.lo, nn.hi]
  | .outPort n => [0xD3, n]
  | .cnc nn => [0xD4, nn.lo, nn.hi]
  | .pushD => [0xD5]
  | .sui n => [0xD6, n]
  | .rst2 => [0xD7]
  | .rc => [0xD8]
  | .retD9 => [0xD9]
  | .jc nn => [0xDA, nn.lo, nn.hi]
  | .inPort n => [0xDB, n]
  | .cc nn => [0xDC, nn.lo, nn.hi]
  | .callDD nn => [0xDD, nn.lo, nn.hi]
  | .sbi n => [0xDE, n]
  | .rst3 => [0xDF]
  | .rpo => [0xE0]
  | .popH => [0xE1]
  | .jpo nn => [0xE2, nn.lo, nn.hi]
  | .xthl => [0xE3]
  | .cpo nn => [0xE4, nn.lo, nn.hi]
  | .pushH => [0xE5]
  | .ani n => [0xE6, n]
  | .rst4 => [0xE7]
  | .rpe => [0xE8]
  | .pchl => [0xE9]
  | .jpe nn => [0xEA, nn.lo, nn.hi]
  | .xchg => [0xEB]
  | .cpe nn => [0xEC, nn.lo, nn.hi]
  | .callED nn => [0xED, nn.lo, nn.hi]
  | .xri n => [0xEE, n]
  | .rst5 => [0xEF]
  | .rp => [0xF0]
  | .popPsw => [0xF1]
  | .jp nn => [0xF2, nn.lo, nn.hi]
  | .di => [0xF3]
  | .cp nn => [0xF4, nn.lo, nn.hi]
  | .pushPsw => [0xF5]
  | .ori n => [0xF6, n]
  | .rst6 => [0xF7]
  | .rm => [0xF8]
  | .sphl => [0xF9]
  | .jm nn => [0xFA, nn.lo, nn.hi]
  | .ei => [0xFB]
  | .cm nn => [0xFC, nn.lo, nn.hi]
  | .callFD nn => [0xFD, nn.lo, nn.hi]
  | .cpi n => [0xFE, n]
  | .rst7 => [0xFF]

/-- The opcode byte of an instruction. -/
def Instr.opcode (i : Instr) : Byte := (encode i).headD 0

/-- The length of an instruction in bytes, 1, 2 or 3 (R80). -/
def Instr.length (i : Instr) : Nat := (encode i).length

/-! ### The host's numbering of an instruction's bits -/

/-- The three bytes from an instruction's first on: the `nbits` low bits of `w`, bit 0 the least significant bit of the first
byte, and zeros above them. -/
def tableBytes (nbits w : Nat) : List Byte :=
  let v := w % 2 ^ nbits
  [BitVec.ofNat 8 v, BitVec.ofNat 8 (v / 256), BitVec.ofNat 8 (v / 65536)]

/-- What the decoder reads from an instruction whose bits are `w`, numbered as spec/opcode_table.json numbers them. -/
def decodeTableWord (nbits w : Nat) : Option Instr :=
  match decode (tableBytes nbits w) with
  | .ok (i, _) => some i
  | .error _ => none

end Sys2Proof
end

