-- ==== Sys2Proof/Machine/State.lean ====
section
/-! DEFINITION. The state of the machine (spec/10_state.md R20 to R41) as plain data, the reasons a step can stop, and the state after reset. -/

namespace Sys2Proof.Machine

/-- The five flags of F (R21). The hard-wired bits 1, 3 and 5 are supplied by `Flags.pack`; R27 allows this form. -/
structure Flags where
  s  : Bool
  z  : Bool
  ac : Bool
  p  : Bool
  cy : Bool
  deriving DecidableEq, Repr

/-- Memory: the (address, byte) pairs that differ from what an unlisted address reads as, addresses strictly rising. -/
abbrev Memory := List Host.Cell

/-- A screen of 224 x 256 words: the (pixel number `y * 224 + x`, word) pairs that differ from a default, numbers strictly rising (R326). -/
abbrev Screen := List (Nat × Pixel)

/-- The port of a sound bank (45_io_ports.md R274: port 3 or 5). -/
inductive SoundPort where
  | port3
  | port5
  deriving DecidableEq, Repr

/-- A sound id `(port, bit)` (R274; D14). -/
structure SoundId where
  port : SoundPort
  bit  : Fin 8
  deriving DecidableEq, Repr

/-- The three kinds of event that the port handler emits to the APU (R274). -/
inductive SoundEvent where
  | playOnce (id : SoundId)
  | startLoop (id : SoundId)
  | stopLoop (id : SoundId)
  deriving DecidableEq, Repr

/-- The half of the screen that the next `Video.Step` scans: startY = 0 or startY = 128 (R36). -/
inductive Half where
  | top
  | bottom
  deriving DecidableEq, Repr

/-- What SaveState captures: exactly the fields of R41. -/
structure Snapshot where
  a       : Byte
  flags   : Flags
  b       : Byte
  c       : Byte
  d       : Byte
  e       : Byte
  h       : Byte
  l       : Byte
  pc      : Word
  sp      : Word
  cyc     : BitVec 64
  so      : BitVec 3
  sr      : Word
  ie      : Bool
  ioPorts : Vector Byte 8
  mem     : Memory
  deriving DecidableEq, Repr

/-- The whole machine: CPU, memory, I/O, video, scheduler and host. -/
structure State where
  /-- The byte registers (R20). -/
  a           : Byte
  b           : Byte
  c           : Byte
  d           : Byte
  e           : Byte
  h           : Byte
  l           : Byte
  /-- F (R21), as its five flags. -/
  flags       : Flags
  /-- SP (R23). -/
  sp          : Word
  /-- PC: the address of the next opcode byte (R26). -/
  pc          : Word
  /-- CYC (R30). -/
  cyc         : BitVec 64
  /-- IE, the interrupt-enable latch (R31). -/
  ie          : Bool
  /-- Running (R35). -/
  running     : Bool
  /-- The 64 KiB memory (20_memory.md R62). -/
  mem         : Memory
  /-- SR, the shift register (R32). -/
  sr          : Word
  /-- SO, the shift offset (R33). -/
  so          : BitVec 3
  /-- IOPorts[0..7] (R34). -/
  ioPorts     : Vector Byte 8
  /-- OUT_STREAM, oldest byte first (45_io_ports.md R272). -/
  outStream   : List Byte
  /-- SOUND_EVENTS, oldest first (45_io_ports.md R274). Empty at creation: DESIGN CHOICE, unsafe (log entry 31). -/
  soundEvents : List SoundEvent
  /-- The active sound loops of the APU (R38). -/
  loops       : List SoundId
  /-- startY (R36). -/
  startY      : Half
  /-- FB, the framebuffer (R36): the words that are not opaque black. -/
  fb          : Screen
  /-- LUT, the foreground colours (R36): the words that are not opaque white. -/
  lut         : Screen
  /-- ACC, the cycle accumulator of the current frame (R37). -/
  acc         : Nat
  /-- Paused (R37). -/
  paused      : Bool
  /-- The snapshots the host holds, newest first: those of this run, and behind them those it had from earlier runs (60_exceptions.md
  R341; log entries 8 and 30). -/
  saves       : List Snapshot
  /-- The model's own: the host has ended the run (60_exceptions.md R334; log entry 6). -/
  shutdown    : Bool
  /-- HOST_SCHEDULE: the batches of host events still to come, one per frame boundary (00_scope.md R8; log entry 7). -/
  schedule    : List (List HostEvent)
  /-- MODE (00_scope.md R5), fixed for a run. -/
  mode        : Mode
  /-- COLOUR_SCHEME (00_scope.md R7), fixed for a run. -/
  scheme      : ColourScheme
  /-- THROTTLED (00_scope.md R7), fixed for a run. -/
  throttled   : Bool
  deriving DecidableEq, Repr

/-- The faults of the model (60_exceptions.md R301). Each ends the run and changes no state. -/
inductive Fault where
  /-- UNIMPLEMENTED_OPCODE (R302): raised by `step` when the fetched bytes do not decode. Safe, and never reached: every opcode decodes. -/
  | unimplementedOpcode (opcode : Byte) (pc : Word)
  /-- CPM_UNTERMINATED_STRING (45_io_ports.md R272; D13): raised by OUT 1 in CPM mode with C = 9 when no byte of memory
  is '$'. Safe: the spec itself faults here. -/
  | cpmUnterminatedString (de : Word)
  /-- CORRUPT_SAVE_STATE (R343): raised at a frame boundary by a LoadState of bytes that no SaveState produced. Safe: the spec itself
  faults here. -/
  | corruptSaveState
  deriving DecidableEq, Repr

/-- The refusals of the model: moves that do not exist. -/
inductive Refusal where
  /-- Raised by an arm of `exec` whose instruction has no meaning yet. Safe. -/
  | notModelled (mnemonic : String)
  /-- Raised at a frame boundary by a `SendInput` with port ≥ 8 or bit ≥ 8 (R301, R340; D24). Safe: the host has no such move. -/
  | sendInputOutOfRange (port bit : Nat)
  /-- Raised at a frame boundary by a LoadState where the host holds no such snapshot from an earlier SaveState, of this run or an earlier
  one (R341; D27; log entry 30). Safe: the host has no such move. -/
  | loadWithoutSave
  /-- Raised by `step` in a state where the run is over: Running is false or the host has shut down (R334; D22). Safe: no step is defined there. -/
  | runOver
  deriving DecidableEq, Repr

/-- What a meaning, a host event or a step answers. -/
abbrev Result := Host.Outcome State Fault Refusal

/-- The machine after creation and `Init` (R40, R353), with the parameters of log entry 1: ARCADE mode, no colour scheme,
unthrottled, an empty ROM image, no host events and no snapshots from earlier runs (log entry 30).
SOUND_EVENTS starts empty by the model's choice, since neither R274 nor R40 gives it a start value (log entry 31). -/
def State.reset : State where
  a := 0x00
  b := 0x00
  c := 0x00
  d := 0x00
  e := 0x00
  h := 0x00
  l := 0x00
  flags := ⟨false, false, false, false, false⟩
  sp := 0x0000
  pc := 0x0000
  cyc := 0
  ie := false
  running := true
  mem := []
  sr := 0x0000
  so := 0
  ioPorts := Vector.replicate 8 0x00
  outStream := []
  soundEvents := []
  loops := []
  startY := .top
  fb := []
  lut := []
  acc := 0
  paused := false
  saves := []
  shutdown := false
  schedule := []
  mode := .arcade
  scheme := .none
  throttled := false

end Sys2Proof.Machine
end

