-- ==== Sys2Proof/Machine/Flags.lean ====
section
/-! DEFINITION. The flags: the byte F (spec/10_state.md R21, R27), the conditions (R29) and every flag generator of
spec/41_arithmetic.md section 1, DAA (R159) and the rotates (42_logical.md R182 to R185). -/

namespace Sys2Proof.Machine

/-- A bit as a number, 0 or 1. -/
abbrev bit (v : Bool) : Nat := v.toNat

/-! ### F as a byte -/

/-- The byte F: `S Z 0 AC 0 P 1 CY` (R21). -/
def Flags.pack (f : Flags) : Byte :=
  BitVec.ofBool f.s ++ BitVec.ofBool f.z ++ 0#1 ++ BitVec.ofBool f.ac ++ 0#1 ++ BitVec.ofBool f.p ++ 1#1 ++ BitVec.ofBool f.cy

/-- `SetF(v)`: the five flags of a byte, its bits 1, 3 and 5 dropped (R27). -/
def Flags.unpack (v : Byte) : Flags :=
  { s := v[7], z := v[6], ac := v[4], p := v[2], cy := v[0] }

/-- The register F. -/
def State.f (s : State) : Byte := s.flags.pack

/-- PSW = A : F (R22). -/
def State.psw (s : State) : Word := Word.ofBytes s.a s.f

/-! ### Conditions (R29) -/

/-- `cond(ccc)` on the flags at the start of the instruction. -/
def condHolds (cc : Cond) (f : Flags) : Bool :=
  match cc with
  | .nz => !f.z
  | .z => f.z
  | .nc => !f.cy
  | .c => f.cy
  | .po => !f.p
  | .pe => f.p
  | .p => !f.s
  | .m => f.s

/-! ### Flag generators (41_arithmetic.md R130 to R135) -/

/-- `popcount(v)`: the number of one bits (00_scope.md R9). -/
def popcount (v : Byte) : Nat :=
  bit v[0] + bit v[1] + bit v[2] + bit v[3] + bit v[4] + bit v[5] + bit v[6] + bit v[7]

/-- `SZP(r)`: S, Z and P from a result, with the AC and CY of the caller (R130). -/
def szp (r : Byte) (ac cy : Bool) : Flags :=
  { s := r[7], z := decide (r = 0x00), ac := ac, p := decide (popcount r % 2 = 0), cy := cy }

/-- The low four bits as a number. -/
def lowNibble (v : Byte) : Nat := (v &&& 0x0F).toNat

/-- `ADDF(a, b, c)` (R131). -/
def addF (a b : Byte) (carry : Bool) : Byte × Flags :=
  let r := BitVec.ofNat 8 (a.toNat + b.toNat + bit carry)
  (r, szp r (decide (lowNibble a + lowNibble b + bit carry > 0x0F)) (decide (a.toNat + b.toNat + bit carry > 0xFF)))

/-- `SUBF(a, b, c)`, borrow-aware (R132; 90_conflicts.md C6). -/
def subF (a b : Byte) (borrow : Bool) : Byte × Flags :=
  let r := a - b - BitVec.ofNat 8 (bit borrow)
  (r, szp r (decide (lowNibble a ≥ lowNibble b + bit borrow)) (decide (a.toNat < b.toNat + bit borrow)))

/-- `ANDF(a, b)` (R133). -/
def andF (a b : Byte) : Byte × Flags :=
  let r := a &&& b
  (r, szp r (decide ((a ||| b) &&& 0x08 ≠ 0)) false)

/-- `ORF(r)` (R134). -/
def orF (r : Byte) : Byte × Flags :=
  (r, szp r false false)

/-- INR: the result and the flags, CY untouched (R135). -/
def incF (v : Byte) (f : Flags) : Byte × Flags :=
  (v + 1, szp (v + 1) (decide (lowNibble v + 1 > 0x0F)) f.cy)

/-- DCR: the result and the flags, AC from the value before the decrement, CY untouched (R135; 90_conflicts.md C7). -/
def decF (v : Byte) (f : Flags) : Byte × Flags :=
  (v - 1, szp (v - 1) (decide (lowNibble v ≥ 1)) f.cy)

/-- The ALU operation of a field aaa on A and an operand: the result and the flags (30_encoding.md R82). -/
def aluF (op : AluOp) (a v : Byte) (f : Flags) : Byte × Flags :=
  match op with
  | .add => addF a v false
  | .adc => addF a v f.cy
  | .sub => subF a v false
  | .sbb => subF a v f.cy
  | .ana => andF a v
  | .xra => orF (a ^^^ v)
  | .ora => orF (a ||| v)
  | .cmp => subF a v false

/-- What an ALU operation leaves in A: its result, and for CMP the old A, the result being discarded (42_logical.md R179). -/
def aluA (op : AluOp) (a r : Byte) : Byte :=
  match op with
  | .cmp => a
  | .add | .adc | .sub | .sbb | .ana | .xra | .ora => r

/-- DAA: A and the flags after it (R159; D34). -/
def daaF (a : Byte) (f : Flags) : Byte × Flags :=
  let v0 : Byte := if lowNibble a > 9 ∨ f.ac = true then 0x06 else 0x00
  let high : Bool := decide (((a + v0) &&& 0xF0).toNat > 0x90 ∨ f.cy = true ∨ a.toNat > 0x99)
  let v : Byte := if high then v0 + 0x60 else v0
  let r := a + v
  (r, szp r (decide (lowNibble a + lowNibble v > 0x0F)) (high || f.cy))

/-! ### Rotates (42_logical.md R182 to R185): CY is the only flag written -/

/-- The flags with CY replaced. -/
def Flags.setCy (f : Flags) (cy : Bool) : Flags := { f with cy := cy }

/-- RLC (R182). -/
def rlcF (a : Byte) (f : Flags) : Byte × Flags :=
  ((a <<< 1) ||| BitVec.ofNat 8 (bit a[7]), f.setCy a[7])

/-- RRC (R183). -/
def rrcF (a : Byte) (f : Flags) : Byte × Flags :=
  ((a >>> 1) ||| (BitVec.ofNat 8 (bit a[0]) <<< 7), f.setCy a[0])

/-- RAL (R184). -/
def ralF (a : Byte) (f : Flags) : Byte × Flags :=
  ((a <<< 1) ||| BitVec.ofNat 8 (bit f.cy), f.setCy a[7])

/-- RAR (R185). -/
def rarF (a : Byte) (f : Flags) : Byte × Flags :=
  ((a >>> 1) ||| (BitVec.ofNat 8 (bit f.cy) <<< 7), f.setCy a[0])

end Sys2Proof.Machine
end

