-- ==== Sys2Proof/Machine/Ops.lean ====
section
/-! DEFINITION. The named operations over memory, the program counter, the stack and the interrupt latch that every meaning shares
(spec/20_memory.md, 44_stack_control.md R230, 60_exceptions.md R311 to R316, 70_reset_and_hazards.md R350). -/

namespace Sys2Proof.Machine

/-! ### Sparse tables: lists of (key, value) pairs, keys strictly rising, no value equal to the default -/

/-- The value at a key: the listed one, or the default. -/
def cellsRead {α : Type} (dflt : α) : List (Nat × α) → Nat → α
  | [], _ => dflt
  | (k, v) :: rest, key => if k = key then v else cellsRead dflt rest key

/-- The table without its entries at a key. -/
def cellsErase {α : Type} (cells : List (Nat × α)) (key : Nat) : List (Nat × α) :=
  cells.filter (fun cell => !decide (cell.1 = key))

/-- Puts an entry before the first entry of a larger key. -/
def cellsInsert {α : Type} : List (Nat × α) → Nat → α → List (Nat × α)
  | [], key, v => [(key, v)]
  | (k, x) :: rest, key, v => if key < k then (key, v) :: (k, x) :: rest else (k, x) :: cellsInsert rest key v

/-- Sets the value at a key and keeps the canonical form: writing the default removes the entry. -/
def cellsWrite {α : Type} [DecidableEq α] (dflt : α) (cells : List (Nat × α)) (key : Nat) (v : α) : List (Nat × α) :=
  if v = dflt then cellsErase cells key else cellsInsert (cellsErase cells key) key v

/-- The canonical form from a lower bound on: keys at least `lo` and strictly rising, all below `bound`, no value the default. -/
def cellsWfFrom {α : Type} [DecidableEq α] (dflt : α) (bound : Nat) : Nat → List (Nat × α) → Bool
  | _, [] => true
  | lo, (k, v) :: rest =>
    decide (lo ≤ k) && decide (k < bound) && !decide (v = dflt) && cellsWfFrom dflt bound (k + 1) rest

/-- The canonical form of a table. -/
def cellsWf {α : Type} [DecidableEq α] (dflt : α) (bound : Nat) (cells : List (Nat × α)) : Bool :=
  cellsWfFrom dflt bound 0 cells

/-! ### Memory (20_memory.md) -/

/-- `Read(addr)` of the bus (R61, R62). -/
def Memory.read (m : Memory) (addr : Word) : Byte :=
  cellsRead Config.unwrittenByte m addr.toNat

/-- `Write(addr, byte)` of the bus (R61, R62). No region is protected (R63). -/
def Memory.write (m : Memory) (addr : Word) (v : Byte) : Memory :=
  cellsWrite Config.unwrittenByte m addr.toNat v

/-- The canonical form of the memory: 65,536 addresses, no entry equal to what an unlisted address reads as. -/
def Memory.wf (m : Memory) : Bool :=
  cellsWf Config.unwrittenByte 65536 m

/-- `MemRead(addr, 1)` (00_scope.md R11). -/
def State.readByte (s : State) (addr : Word) : Byte :=
  s.mem.read addr

/-- `MemWrite(addr, 1, v)` (00_scope.md R11). -/
def State.writeByte (s : State) (addr : Word) (v : Byte) : State :=
  { s with mem := s.mem.write addr v }

/-- `MemRead(addr, 2)`: the high byte at `addr + 1`, the addresses wrapping separately (00_scope.md R11; 20_memory.md R65, R66). -/
def State.readWord (s : State) (addr : Word) : Word :=
  Word.ofBytes (s.readByte (addr + 1)) (s.readByte addr)

/-- `MemWrite(addr, 2, v)`: the low byte at `addr`, the high byte at `addr + 1` (00_scope.md R11). -/
def State.writeWord (s : State) (addr : Word) (v : Word) : State :=
  (s.writeByte addr v.lo).writeByte (addr + 1) v.hi

/-! ### The end of an instruction (00_scope.md R12; 10_state.md R26, R30) -/

/-- `pc <- target; cyc += cycles`. Both wrap (R26, R30; D23). -/
def State.goto (s : State) (target : Word) (cycles : Nat) : State :=
  { s with pc := target, cyc := s.cyc + BitVec.ofNat 64 cycles }

/-- `pc <- pc + length; cyc += cycles`. -/
def State.advance (s : State) (length cycles : Nat) : State :=
  s.goto (s.pc + BitVec.ofNat 16 length) cycles

/-- `stop`: `Running <- false` (10_state.md R35). -/
def State.stop (s : State) : State :=
  { s with running := false }

/-! ### The stack (44_stack_control.md R230) -/

/-- `PUSH16(v)`. -/
def State.push16 (s : State) (v : Word) : State :=
  { s.writeWord (s.sp - 2) v with sp := s.sp - 2 }

/-- The word that `POP16()` returns. -/
def State.top16 (s : State) : Word :=
  s.readWord s.sp

/-- `POP16()`, the word it returns left out. -/
def State.drop16 (s : State) : State :=
  { s with sp := s.sp + 2 }

/-! ### Interrupts (60_exceptions.md R310 to R316) -/

/-- The restart vector `8 * n` (20_memory.md R64). -/
def restartVector (n : BitVec 3) : Word :=
  8 * n.setWidth 16

/-- `RequestInterrupt(n)`: taking an interrupt. Discarded when IE = 0; otherwise IE is cleared, the PC of the next instruction is
pushed and control goes to `8 * n`, at a cost of no cycles (R311, R312; D4). -/
def requestInterrupt (n : BitVec 3) (s : State) : State :=
  if s.ie then
    { s.push16 s.pc with ie := false, pc := restartVector n }
  else s

/-- The return from an interrupt is an ordinary return: `pc <- POP16()`, IE unchanged (R315; 43_branch.md R204). -/
def State.returnPopped (s : State) (cycles : Nat) : State :=
  s.drop16.goto s.top16 cycles

/-! ### Init (70_reset_and_hazards.md R350) -/

/-- `Init(pc)`: every register of the CPU and of the port handler; memory, startY, FB, Paused and the sound loops stay. ACC is 0
after Init (10_state.md R40). -/
def State.init (pc : Word) (s : State) : State :=
  { s with
    a := 0x00, b := 0x00, c := 0x00, d := 0x00, e := 0x00, h := 0x00, l := 0x00
    flags := ⟨false, false, false, false, false⟩
    sp := 0x0000, pc := pc, cyc := 0, ie := false
    sr := 0x0000, so := 0, ioPorts := Vector.replicate 8 0x00
    running := true, acc := 0 }

/-! ### Fetch (30_encoding.md R83, R84) -/

/-- The bytes at PC, PC + 1 and PC + 2 through the bus. Reads have no side effect (20_memory.md R68), so reading more bytes than the
instruction takes is not observable. -/
def State.fetch (s : State) : List Byte :=
  [s.readByte s.pc, s.readByte (s.pc + 1), s.readByte (s.pc + 2)]

/-- Stores bytes at an address and up, modulo 2^16. -/
def Memory.writeBytes (m : Memory) (addr : Word) : List Byte → Memory
  | [] => m
  | v :: rest => Memory.writeBytes (m.write addr v) (addr + 1) rest

end Sys2Proof.Machine
end

