-- ==== Sys2Proof/Machine/Operands.lean ====
section
/-! DEFINITION. The operand forms (spec/10_state.md R22, R24, R25): registers, the memory operand M and the register pairs. -/

namespace Sys2Proof.Machine

/-- `x[r]` of a register (R24). -/
def State.reg (s : State) : Reg → Byte
  | .b => s.b
  | .c => s.c
  | .d => s.d
  | .e => s.e
  | .h => s.h
  | .l => s.l
  | .a => s.a

/-- `x[r] <- v` of a register (R24). -/
def State.setReg (s : State) (r : Reg) (v : Byte) : State :=
  match r with
  | .b => { s with b := v }
  | .c => { s with c := v }
  | .d => { s with d := v }
  | .e => { s with e := v }
  | .h => { s with h := v }
  | .l => { s with l := v }
  | .a => { s with a := v }

/-- BC = B : C (R22). -/
def State.bc (s : State) : Word := Word.ofBytes s.b s.c

/-- DE = D : E (R22). -/
def State.de (s : State) : Word := Word.ofBytes s.d s.e

/-- HL = H : L (R22). -/
def State.hl (s : State) : Word := Word.ofBytes s.h s.l

/-- `BC <- v`: the high byte goes to B (R22). -/
def State.setBc (s : State) (v : Word) : State := { s with b := v.hi, c := v.lo }

/-- `DE <- v` (R22). -/
def State.setDe (s : State) (v : Word) : State := { s with d := v.hi, e := v.lo }

/-- `HL <- v` (R22). -/
def State.setHl (s : State) (v : Word) : State := { s with h := v.hi, l := v.lo }

/-- `x[6]`: the memory byte at HL (R24). -/
def State.readM (s : State) : Byte := s.readByte s.hl

/-- `x[6] <- v` (R24). -/
def State.writeM (s : State) (v : Byte) : State := s.writeByte s.hl v

/-- `rp[p]` (R25). -/
def State.pair (s : State) : Pair → Word
  | .bc => s.bc
  | .de => s.de
  | .hl => s.hl
  | .sp => s.sp

/-- `rp[p] <- v` (R25). -/
def State.setPair (s : State) (p : Pair) (v : Word) : State :=
  match p with
  | .bc => s.setBc v
  | .de => s.setDe v
  | .hl => s.setHl v
  | .sp => { s with sp := v }

/-- `rp[p]` of LDAX and STAX, p in 0 and 1 (R25). -/
def State.indexPair (s : State) : IndexPair → Word
  | .bc => s.bc
  | .de => s.de

/-- `rpp[p]` for BC, DE and HL (R25). -/
def State.stackPair (s : State) : StackPair → Word
  | .bc => s.bc
  | .de => s.de
  | .hl => s.hl

/-- `rpp[p] <- v` for BC, DE and HL (R25). -/
def State.setStackPair (s : State) (p : StackPair) (v : Word) : State :=
  match p with
  | .bc => s.setBc v
  | .de => s.setDe v
  | .hl => s.setHl v

end Sys2Proof.Machine
end

