-- ==== Sys2Proof/Machine/Branch.lean ====
section
/-! DEFINITION. The jumps, calls, returns and restarts (spec/43_branch.md R200 to R211). None writes a flag. -/

namespace Sys2Proof.Machine

/-- JMP nn (R200). -/
def jump (nn : Word) (s : State) : Host.Outcome State Fault Refusal :=
  .next (s.goto nn 10)

/-- Jcc nn (R201): 10 cycles either way. -/
def jumpIf (cc : Cond) (nn : Word) (s : State) : Host.Outcome State Fault Refusal :=
  if condHolds cc s.flags then .next (s.goto nn 10) else .next (s.advance 3 10)

/-- CALL nn (R202): the address of the next instruction is pushed (R211). -/
def callTo (nn : Word) (s : State) : Host.Outcome State Fault Refusal :=
  .next ((s.push16 (s.pc + 3)).goto nn 17)

/-- Ccc nn (R203): 17 cycles taken, 11 not taken. -/
def callIf (cc : Cond) (nn : Word) (s : State) : Host.Outcome State Fault Refusal :=
  if condHolds cc s.flags then .next ((s.push16 (s.pc + 3)).goto nn 17) else .next (s.advance 3 11)

/-- RET (R204). -/
def returnAlways (s : State) : Host.Outcome State Fault Refusal :=
  .next (s.returnPopped 10)

/-- Rcc (R205): 11 cycles taken, 5 not taken. -/
def returnIf (cc : Cond) (s : State) : Host.Outcome State Fault Refusal :=
  if condHolds cc s.flags then .next (s.returnPopped 11) else .next (s.advance 1 5)

/-- RST n (R206): IE unchanged. -/
def restart (n : BitVec 3) (s : State) : Host.Outcome State Fault Refusal :=
  .next ((s.push16 (s.pc + 1)).goto (restartVector n) 11)

/-- RNZ (0xC0), R205. -/
def execRnz (s : State) : Host.Outcome State Fault Refusal :=
  returnIf .nz s

/-- JNZ a16 (0xC2), R201. -/
def execJnz (nn : Word) (s : State) : Host.Outcome State Fault Refusal :=
  jumpIf .nz nn s

/-- JMP a16 (0xC3), R200. -/
def execJmp (nn : Word) (s : State) : Host.Outcome State Fault Refusal :=
  jump nn s

/-- CNZ a16 (0xC4), R203. -/
def execCnz (nn : Word) (s : State) : Host.Outcome State Fault Refusal :=
  callIf .nz nn s

/-- RST 0 (0xC7), R206. -/
def execRst0 (s : State) : Host.Outcome State Fault Refusal :=
  restart 0 s

/-- RZ (0xC8), R205. -/
def execRz (s : State) : Host.Outcome State Fault Refusal :=
  returnIf .z s

/-- RET (0xC9), R204. -/
def execRet (s : State) : Host.Outcome State Fault Refusal :=
  returnAlways s

/-- JZ a16 (0xCA), R201. -/
def execJz (nn : Word) (s : State) : Host.Outcome State Fault Refusal :=
  jumpIf .z nn s

/-- JMP* a16 (0xCB), R208. -/
def execJmpCB (nn : Word) (s : State) : Host.Outcome State Fault Refusal :=
  jump nn s

/-- CZ a16 (0xCC), R203. -/
def execCz (nn : Word) (s : State) : Host.Outcome State Fault Refusal :=
  callIf .z nn s

/-- CALL a16 (0xCD), R202. -/
def execCall (nn : Word) (s : State) : Host.Outcome State Fault Refusal :=
  callTo nn s

/-- RST 1 (0xCF), R206. -/
def execRst1 (s : State) : Host.Outcome State Fault Refusal :=
  restart 1 s

/-- RNC (0xD0), R205. -/
def execRnc (s : State) : Host.Outcome State Fault Refusal :=
  returnIf .nc s

/-- JNC a16 (0xD2), R201. -/
def execJnc (nn : Word) (s : State) : Host.Outcome State Fault Refusal :=
  jumpIf .nc nn s

/-- CNC a16 (0xD4), R203. -/
def execCnc (nn : Word) (s : State) : Host.Outcome State Fault Refusal :=
  callIf .nc nn s

/-- RST 2 (0xD7), R206. -/
def execRst2 (s : State) : Host.Outcome State Fault Refusal :=
  restart 2 s

/-- RC (0xD8), R205. -/
def execRc (s : State) : Host.Outcome State Fault Refusal :=
  returnIf .c s

/-- RET* (0xD9), R210. -/
def execRetD9 (s : State) : Host.Outcome State Fault Refusal :=
  returnAlways s

/-- JC a16 (0xDA), R201. -/
def execJc (nn : Word) (s : State) : Host.Outcome State Fault Refusal :=
  jumpIf .c nn s

/-- CC a16 (0xDC), R203. -/
def execCc (nn : Word) (s : State) : Host.Outcome State Fault Refusal :=
  callIf .c nn s

/-- CALL* a16 (0xDD), R209. -/
def execCallDD (nn : Word) (s : State) : Host.Outcome State Fault Refusal :=
  callTo nn s

/-- RST 3 (0xDF), R206. -/
def execRst3 (s : State) : Host.Outcome State Fault Refusal :=
  restart 3 s

/-- RPO (0xE0), R205. -/
def execRpo (s : State) : Host.Outcome State Fault Refusal :=
  returnIf .po s

/-- JPO a16 (0xE2), R201. -/
def execJpo (nn : Word) (s : State) : Host.Outcome State Fault Refusal :=
  jumpIf .po nn s

/-- CPO a16 (0xE4), R203. -/
def execCpo (nn : Word) (s : State) : Host.Outcome State Fault Refusal :=
  callIf .po nn s

/-- RST 4 (0xE7), R206. -/
def execRst4 (s : State) : Host.Outcome State Fault Refusal :=
  restart 4 s

/-- RPE (0xE8), R205. -/
def execRpe (s : State) : Host.Outcome State Fault Refusal :=
  returnIf .pe s

/-- PCHL (0xE9), R207. -/
def execPchl (s : State) : Host.Outcome State Fault Refusal :=
  .next (s.goto s.hl 5)

/-- JPE a16 (0xEA), R201. -/
def execJpe (nn : Word) (s : State) : Host.Outcome State Fault Refusal :=
  jumpIf .pe nn s

/-- CPE a16 (0xEC), R203. -/
def execCpe (nn : Word) (s : State) : Host.Outcome State Fault Refusal :=
  callIf .pe nn s

/-- CALL* a16 (0xED), R209. -/
def execCallED (nn : Word) (s : State) : Host.Outcome State Fault Refusal :=
  callTo nn s

/-- RST 5 (0xEF), R206. -/
def execRst5 (s : State) : Host.Outcome State Fault Refusal :=
  restart 5 s

/-- RP (0xF0), R205. -/
def execRp (s : State) : Host.Outcome State Fault Refusal :=
  returnIf .p s

/-- JP a16 (0xF2), R201. -/
def execJp (nn : Word) (s : State) : Host.Outcome State Fault Refusal :=
  jumpIf .p nn s

/-- CP a16 (0xF4), R203. -/
def execCp (nn : Word) (s : State) : Host.Outcome State Fault Refusal :=
  callIf .p nn s

/-- RST 6 (0xF7), R206. -/
def execRst6 (s : State) : Host.Outcome State Fault Refusal :=
  restart 6 s

/-- RM (0xF8), R205. -/
def execRm (s : State) : Host.Outcome State Fault Refusal :=
  returnIf .m s

/-- JM a16 (0xFA), R201. -/
def execJm (nn : Word) (s : State) : Host.Outcome State Fault Refusal :=
  jumpIf .m nn s

/-- CM a16 (0xFC), R203. -/
def execCm (nn : Word) (s : State) : Host.Outcome State Fault Refusal :=
  callIf .m nn s

/-- CALL* a16 (0xFD), R209. -/
def execCallFD (nn : Word) (s : State) : Host.Outcome State Fault Refusal :=
  callTo nn s

/-- RST 7 (0xFF), R206. -/
def execRst7 (s : State) : Host.Outcome State Fault Refusal :=
  restart 7 s

end Sys2Proof.Machine
end

