-- ==== Sys2Proof/Machine/DataTransfer.lean ====
section
/-! DEFINITION. The data transfer instructions (spec/40_data_transfer.md R100 to R112). None writes a flag. -/

namespace Sys2Proof.Machine

/-- MOV r1,r2 (R100). -/
def movRegReg (dst src : Reg) (s : State) : Host.Outcome State Fault Refusal :=
  .next ((s.setReg dst (s.reg src)).advance 1 5)

/-- MOV r,M (R101): M is read with the old HL. -/
def movRegM (dst : Reg) (s : State) : Host.Outcome State Fault Refusal :=
  .next ((s.setReg dst s.readM).advance 1 7)

/-- MOV M,r (R102). -/
def movMReg (src : Reg) (s : State) : Host.Outcome State Fault Refusal :=
  .next ((s.writeM (s.reg src)).advance 1 7)

/-- MVI r,n (R103). -/
def mviReg (dst : Reg) (n : Byte) (s : State) : Host.Outcome State Fault Refusal :=
  .next ((s.setReg dst n).advance 2 7)

/-- MVI M,n (R104). -/
def mviM (n : Byte) (s : State) : Host.Outcome State Fault Refusal :=
  .next ((s.writeM n).advance 2 10)

/-- LXI rp,nn (R105). -/
def lxiPair (p : Pair) (nn : Word) (s : State) : Host.Outcome State Fault Refusal :=
  .next ((s.setPair p nn).advance 3 10)

/-- LDAX rp (R110). -/
def ldaxPair (p : IndexPair) (s : State) : Host.Outcome State Fault Refusal :=
  .next ({ s with a := s.readByte (s.indexPair p) }.advance 1 7)

/-- STAX rp (R111). -/
def staxPair (p : IndexPair) (s : State) : Host.Outcome State Fault Refusal :=
  .next ((s.writeByte (s.indexPair p) s.a).advance 1 7)

/-- LXI B,d16 (0x01), R105. -/
def execLxiB (nn : Word) (s : State) : Host.Outcome State Fault Refusal :=
  lxiPair .bc nn s

/-- STAX B (0x02), R111. -/
def execStaxB (s : State) : Host.Outcome State Fault Refusal :=
  staxPair .bc s

/-- MVI B,d8 (0x06), R103. -/
def execMviB (n : Byte) (s : State) : Host.Outcome State Fault Refusal :=
  mviReg .b n s

/-- LDAX B (0x0A), R110. -/
def execLdaxB (s : State) : Host.Outcome State Fault Refusal :=
  ldaxPair .bc s

/-- MVI C,d8 (0x0E), R103. -/
def execMviC (n : Byte) (s : State) : Host.Outcome State Fault Refusal :=
  mviReg .c n s

/-- LXI D,d16 (0x11), R105. -/
def execLxiD (nn : Word) (s : State) : Host.Outcome State Fault Refusal :=
  lxiPair .de nn s

/-- STAX D (0x12), R111. -/
def execStaxD (s : State) : Host.Outcome State Fault Refusal :=
  staxPair .de s

/-- MVI D,d8 (0x16), R103. -/
def execMviD (n : Byte) (s : State) : Host.Outcome State Fault Refusal :=
  mviReg .d n s

/-- LDAX D (0x1A), R110. -/
def execLdaxD (s : State) : Host.Outcome State Fault Refusal :=
  ldaxPair .de s

/-- MVI E,d8 (0x1E), R103. -/
def execMviE (n : Byte) (s : State) : Host.Outcome State Fault Refusal :=
  mviReg .e n s

/-- LXI H,d16 (0x21), R105. -/
def execLxiH (nn : Word) (s : State) : Host.Outcome State Fault Refusal :=
  lxiPair .hl nn s

/-- SHLD a16 (0x22), R109. -/
def execShld (nn : Word) (s : State) : Host.Outcome State Fault Refusal :=
  .next ((s.writeWord nn s.hl).advance 3 16)

/-- MVI H,d8 (0x26), R103. -/
def execMviH (n : Byte) (s : State) : Host.Outcome State Fault Refusal :=
  mviReg .h n s

/-- LHLD a16 (0x2A), R108. -/
def execLhld (nn : Word) (s : State) : Host.Outcome State Fault Refusal :=
  .next ((s.setHl (s.readWord nn)).advance 3 16)

/-- MVI L,d8 (0x2E), R103. -/
def execMviL (n : Byte) (s : State) : Host.Outcome State Fault Refusal :=
  mviReg .l n s

/-- LXI SP,d16 (0x31), R105. -/
def execLxiSp (nn : Word) (s : State) : Host.Outcome State Fault Refusal :=
  lxiPair .sp nn s

/-- STA a16 (0x32), R107. -/
def execSta (nn : Word) (s : State) : Host.Outcome State Fault Refusal :=
  .next ((s.writeByte nn s.a).advance 3 13)

/-- MVI M,d8 (0x36), R104. -/
def execMviM (n : Byte) (s : State) : Host.Outcome State Fault Refusal :=
  mviM n s

/-- LDA a16 (0x3A), R106. -/
def execLda (nn : Word) (s : State) : Host.Outcome State Fault Refusal :=
  .next ({ s with a := s.readByte nn }.advance 3 13)

/-- MVI A,d8 (0x3E), R103. -/
def execMviA (n : Byte) (s : State) : Host.Outcome State Fault Refusal :=
  mviReg .a n s

/-- MOV B,B (0x40), R100. -/
def execMovBB (s : State) : Host.Outcome State Fault Refusal :=
  movRegReg .b .b s

/-- MOV B,C (0x41), R100. -/
def execMovBC (s : State) : Host.Outcome State Fault Refusal :=
  movRegReg .b .c s

/-- MOV B,D (0x42), R100. -/
def execMovBD (s : State) : Host.Outcome State Fault Refusal :=
  movRegReg .b .d s

/-- MOV B,E (0x43), R100. -/
def execMovBE (s : State) : Host.Outcome State Fault Refusal :=
  movRegReg .b .e s

/-- MOV B,H (0x44), R100. -/
def execMovBH (s : State) : Host.Outcome State Fault Refusal :=
  movRegReg .b .h s

/-- MOV B,L (0x45), R100. -/
def execMovBL (s : State) : Host.Outcome State Fault Refusal :=
  movRegReg .b .l s

/-- MOV B,M (0x46), R101. -/
def execMovBM (s : State) : Host.Outcome State Fault Refusal :=
  movRegM .b s

/-- MOV B,A (0x47), R100. -/
def execMovBA (s : State) : Host.Outcome State Fault Refusal :=
  movRegReg .b .a s

/-- MOV C,B (0x48), R100. -/
def execMovCB (s : State) : Host.Outcome State Fault Refusal :=
  movRegReg .c .b s

/-- MOV C,C (0x49), R100. -/
def execMovCC (s : State) : Host.Outcome State Fault Refusal :=
  movRegReg .c .c s

/-- MOV C,D (0x4A), R100. -/
def execMovCD (s : State) : Host.Outcome State Fault Refusal :=
  movRegReg .c .d s

/-- MOV C,E (0x4B), R100. -/
def execMovCE (s : State) : Host.Outcome State Fault Refusal :=
  movRegReg .c .e s

/-- MOV C,H (0x4C), R100. -/
def execMovCH (s : State) : Host.Outcome State Fault Refusal :=
  movRegReg .c .h s

/-- MOV C,L (0x4D), R100. -/
def execMovCL (s : State) : Host.Outcome State Fault Refusal :=
  movRegReg .c .l s

/-- MOV C,M (0x4E), R101. -/
def execMovCM (s : State) : Host.Outcome State Fault Refusal :=
  movRegM .c s

/-- MOV C,A (0x4F), R100. -/
def execMovCA (s : State) : Host.Outcome State Fault Refusal :=
  movRegReg .c .a s

/-- MOV D,B (0x50), R100. -/
def execMovDB (s : State) : Host.Outcome State Fault Refusal :=
  movRegReg .d .b s

/-- MOV D,C (0x51), R100. -/
def execMovDC (s : State) : Host.Outcome State Fault Refusal :=
  movRegReg .d .c s

/-- MOV D,D (0x52), R100. -/
def execMovDD (s : State) : Host.Outcome State Fault Refusal :=
  movRegReg .d .d s

/-- MOV D,E (0x53), R100. -/
def execMovDE (s : State) : Host.Outcome State Fault Refusal :=
  movRegReg .d .e s

/-- MOV D,H (0x54), R100. -/
def execMovDH (s : State) : Host.Outcome State Fault Refusal :=
  movRegReg .d .h s

/-- MOV D,L (0x55), R100. -/
def execMovDL (s : State) : Host.Outcome State Fault Refusal :=
  movRegReg .d .l s

/-- MOV D,M (0x56), R101. -/
def execMovDM (s : State) : Host.Outcome State Fault Refusal :=
  movRegM .d s

/-- MOV D,A (0x57), R100. -/
def execMovDA (s : State) : Host.Outcome State Fault Refusal :=
  movRegReg .d .a s

/-- MOV E,B (0x58), R100. -/
def execMovEB (s : State) : Host.Outcome State Fault Refusal :=
  movRegReg .e .b s

/-- MOV E,C (0x59), R100. -/
def execMovEC (s : State) : Host.Outcome State Fault Refusal :=
  movRegReg .e .c s

/-- MOV E,D (0x5A), R100. -/
def execMovED (s : State) : Host.Outcome State Fault Refusal :=
  movRegReg .e .d s

/-- MOV E,E (0x5B), R100. -/
def execMovEE (s : State) : Host.Outcome State Fault Refusal :=
  movRegReg .e .e s

/-- MOV E,H (0x5C), R100. -/
def execMovEH (s : State) : Host.Outcome State Fault Refusal :=
  movRegReg .e .h s

/-- MOV E,L (0x5D), R100. -/
def execMovEL (s : State) : Host.Outcome State Fault Refusal :=
  movRegReg .e .l s

/-- MOV E,M (0x5E), R101. -/
def execMovEM (s : State) : Host.Outcome State Fault Refusal :=
  movRegM .e s

/-- MOV E,A (0x5F), R100. -/
def execMovEA (s : State) : Host.Outcome State Fault Refusal :=
  movRegReg .e .a s

/-- MOV H,B (0x60), R100. -/
def execMovHB (s : State) : Host.Outcome State Fault Refusal :=
  movRegReg .h .b s

/-- MOV H,C (0x61), R100. -/
def execMovHC (s : State) : Host.Outcome State Fault Refusal :=
  movRegReg .h .c s

/-- MOV H,D (0x62), R100. -/
def execMovHD (s : State) : Host.Outcome State Fault Refusal :=
  movRegReg .h .d s

/-- MOV H,E (0x63), R100. -/
def execMovHE (s : State) : Host.Outcome State Fault Refusal :=
  movRegReg .h .e s

/-- MOV H,H (0x64), R100. -/
def execMovHH (s : State) : Host.Outcome State Fault Refusal :=
  movRegReg .h .h s

/-- MOV H,L (0x65), R100. -/
def execMovHL (s : State) : Host.Outcome State Fault Refusal :=
  movRegReg .h .l s

/-- MOV H,M (0x66), R101. -/
def execMovHM (s : State) : Host.Outcome State Fault Refusal :=
  movRegM .h s

/-- MOV H,A (0x67), R100. -/
def execMovHA (s : State) : Host.Outcome State Fault Refusal :=
  movRegReg .h .a s

/-- MOV L,B (0x68), R100. -/
def execMovLB (s : State) : Host.Outcome State Fault Refusal :=
  movRegReg .l .b s

/-- MOV L,C (0x69), R100. -/
def execMovLC (s : State) : Host.Outcome State Fault Refusal :=
  movRegReg .l .c s

/-- MOV L,D (0x6A), R100. -/
def execMovLD (s : State) : Host.Outcome State Fault Refusal :=
  movRegReg .l .d s

/-- MOV L,E (0x6B), R100. -/
def execMovLE (s : State) : Host.Outcome State Fault Refusal :=
  movRegReg .l .e s

/-- MOV L,H (0x6C), R100. -/
def execMovLH (s : State) : Host.Outcome State Fault Refusal :=
  movRegReg .l .h s

/-- MOV L,L (0x6D), R100. -/
def execMovLL (s : State) : Host.Outcome State Fault Refusal :=
  movRegReg .l .l s

/-- MOV L,M (0x6E), R101. -/
def execMovLM (s : State) : Host.Outcome State Fault Refusal :=
  movRegM .l s

/-- MOV L,A (0x6F), R100. -/
def execMovLA (s : State) : Host.Outcome State Fault Refusal :=
  movRegReg .l .a s

/-- MOV M,B (0x70), R102. -/
def execMovMB (s : State) : Host.Outcome State Fault Refusal :=
  movMReg .b s

/-- MOV M,C (0x71), R102. -/
def execMovMC (s : State) : Host.Outcome State Fault Refusal :=
  movMReg .c s

/-- MOV M,D (0x72), R102. -/
def execMovMD (s : State) : Host.Outcome State Fault Refusal :=
  movMReg .d s

/-- MOV M,E (0x73), R102. -/
def execMovME (s : State) : Host.Outcome State Fault Refusal :=
  movMReg .e s

/-- MOV M,H (0x74), R102. -/
def execMovMH (s : State) : Host.Outcome State Fault Refusal :=
  movMReg .h s

/-- MOV M,L (0x75), R102. -/
def execMovML (s : State) : Host.Outcome State Fault Refusal :=
  movMReg .l s

/-- MOV M,A (0x77), R102. -/
def execMovMA (s : State) : Host.Outcome State Fault Refusal :=
  movMReg .a s

/-- MOV A,B (0x78), R100. -/
def execMovAB (s : State) : Host.Outcome State Fault Refusal :=
  movRegReg .a .b s

/-- MOV A,C (0x79), R100. -/
def execMovAC (s : State) : Host.Outcome State Fault Refusal :=
  movRegReg .a .c s

/-- MOV A,D (0x7A), R100. -/
def execMovAD (s : State) : Host.Outcome State Fault Refusal :=
  movRegReg .a .d s

/-- MOV A,E (0x7B), R100. -/
def execMovAE (s : State) : Host.Outcome State Fault Refusal :=
  movRegReg .a .e s

/-- MOV A,H (0x7C), R100. -/
def execMovAH (s : State) : Host.Outcome State Fault Refusal :=
  movRegReg .a .h s

/-- MOV A,L (0x7D), R100. -/
def execMovAL (s : State) : Host.Outcome State Fault Refusal :=
  movRegReg .a .l s

/-- MOV A,M (0x7E), R101. -/
def execMovAM (s : State) : Host.Outcome State Fault Refusal :=
  movRegM .a s

/-- MOV A,A (0x7F), R100. -/
def execMovAA (s : State) : Host.Outcome State Fault Refusal :=
  movRegReg .a .a s

/-- XCHG (0xEB), R112. -/
def execXchg (s : State) : Host.Outcome State Fault Refusal :=
  .next (((s.setHl s.de).setDe s.hl).advance 1 4)

end Sys2Proof.Machine
end

