-- ==== Sys2Proof/Machine/Ports.lean ====
section
/-! DEFINITION. The port handler behind IN and OUT (spec/45_io_ports.md R260 to R274): input latches, shift register, sound banks and
the CP/M console stub. -/

namespace Sys2Proof.Machine

/-- The shift-register window `(SR >> (8 - SO)) & 0xFF` (R263; 90_conflicts.md C1). -/
def State.shiftWindow (s : State) : Byte :=
  (s.sr >>> (8 - s.so.toNat)).setWidth 8

/-- `IORead(p)`: a value for ports 0 to 3, none for ports 4 to 255 (R260, R262 to R264; D9). -/
def ioRead (p : Byte) (s : State) : Option Byte :=
  match p.toNat with
  | 0 => some s.ioPorts[0]
  | 1 => some s.ioPorts[1]
  | 2 => some s.ioPorts[2]
  | 3 => some s.shiftWindow
  | _ => none

/-! ### Sound (R268, R269, R274) -/

/-- What an event does to the APU's active loops: starting an active loop and stopping an inactive one change nothing (10_state.md R38). -/
def applySound (loops : List SoundId) : SoundEvent → List SoundId
  | .playOnce _ => loops
  | .startLoop id => if id ∈ loops then loops else id :: loops
  | .stopLoop id => loops.filter (fun x => !decide (x = id))

/-- Appends events to SOUND_EVENTS and hands them to the APU (R274). -/
def State.emit (s : State) (events : List SoundEvent) : State :=
  { s with soundEvents := s.soundEvents ++ events, loops := events.foldl applySound s.loops }

/-- The one-shots of a port whose bits rise, in ascending order of the bits given. -/
def oneShots (port : SoundPort) (rising : Byte) (bits : List (Fin 8)) : List SoundEvent :=
  (bits.filter (fun i => rising[i])).map (fun i => .playOnce ⟨port, i⟩)

/-- The events of OUT 3 with the latch at `prev` (R268): bit 0 loops, bits 1 to 3 are one-shots. -/
def bank1Events (prev v : Byte) : List SoundEvent :=
  let rising := v &&& ~~~prev
  let falling := prev &&& ~~~v
  (if rising[0] then [.startLoop ⟨.port3, 0⟩] else [])
    ++ (if falling[0] then [.stopLoop ⟨.port3, 0⟩] else [])
    ++ oneShots .port3 rising [1, 2, 3]

/-- The events of OUT 5 with the latch at `prev` (R269): bits 0 to 4 are one-shots. -/
def bank2Events (prev v : Byte) : List SoundEvent :=
  oneShots .port5 (v &&& ~~~prev) [0, 1, 2, 3, 4]

/-- OUT 3 (R268). -/
def soundBank1 (v : Byte) (s : State) : State :=
  { s.emit (bank1Events s.ioPorts[3] v) with ioPorts := s.ioPorts.set 3 v }

/-- OUT 5 (R269). -/
def soundBank2 (v : Byte) (s : State) : State :=
  { s.emit (bank2Events s.ioPorts[5] v) with ioPorts := s.ioPorts.set 5 v }

/-! ### The shift register (R266, R267) -/

/-- OUT 2 (R266): `SO <- v & 0x07`. -/
def setShiftOffset (v : Byte) (s : State) : State :=
  { s with so := v.extractLsb' 0 3 }

/-- OUT 4 (R267): `SR <- ((v << 8) | (SR >> 8)) & 0xFFFF`. -/
def shiftIn (v : Byte) (s : State) : State :=
  { s with sr := (v.setWidth 16 <<< 8) ||| (s.sr >>> 8) }

/-! ### The CP/M console stub (R271, R272) -/

/-- The bytes from an address up to the first '$', which is left out; none if there is no '$' within `n` bytes (R272; D13). -/
def dollarString (m : Memory) : Nat → Word → Option (List Byte)
  | 0, _ => none
  | n + 1, addr =>
    if m.read addr = 0x24 then some []
    else (dollarString m n (addr + 1)).map (fun rest => m.read addr :: rest)

/-- The bytes that CPM OUT 1 appends: E for C = 2, the '$'-terminated string at DE for C = 9, nothing for any other C (D12); none
where the string does not end. -/
def consoleBytes (s : State) : Option (List Byte) :=
  if s.c = 2 then some [s.e]
  else if s.c = 9 then dollarString s.mem 65536 (Word.ofBytes s.d s.e)
  else some []

/-- OUT 1 in CPM mode (R272). -/
def consoleOutput (s : State) : Host.Outcome State Fault Refusal :=
  match consoleBytes s with
  | some bytes => .next { s with outStream := s.outStream ++ bytes }
  | none => .fault (.cpmUnterminatedString (Word.ofBytes s.d s.e))

/-- `IOWrite(p, v)` (R260). Ports 0 and 1 in ARCADE mode, 6, and 7 to 255 ignore the write (R270; D10). In CPM mode only ports 0
and 1 differ (R273; D11). -/
def ioWrite (p v : Byte) (s : State) : Host.Outcome State Fault Refusal :=
  match p.toNat with
  | 0 =>
    match s.mode with
    | .arcade => .next s
    | .cpm => .next s.stop
  | 1 =>
    match s.mode with
    | .arcade => .next s
    | .cpm => consoleOutput s
  | 2 => .next (setShiftOffset v s)
  | 3 => .next (soundBank1 v s)
  | 4 => .next (shiftIn v s)
  | 5 => .next (soundBank2 v s)
  | _ => .next s

end Sys2Proof.Machine
end

