-- ==== Sys2Proof/Machine/InputOutput.lean ====
section
/-! DEFINITION. The I/O instructions (spec/45_io_ports.md R261, R265) over the port handler of Machine/Ports.lean. -/

namespace Sys2Proof.Machine

/-- IN p (R261): A is written only where the port has a value. -/
def inputFrom (p : Byte) (s : State) : Host.Outcome State Fault Refusal :=
  match ioRead p s with
  | some v => .next ({ s with a := v }.advance 2 10)
  | none => .next (s.advance 2 10)

/-- OUT p (R265): the effects of the port come before the next instruction, and an OUT that stops the CPU still completes. -/
def outputTo (p : Byte) (s : State) : Host.Outcome State Fault Refusal :=
  match ioWrite p s.a s with
  | .next t => .next (t.advance 2 10)
  | .fault r => .fault r
  | .refused r => .refused r

/-- OUT d8 (0xD3), R265. -/
def execOutPort (n : Byte) (s : State) : Host.Outcome State Fault Refusal :=
  outputTo n s

/-- IN d8 (0xDB), R261. -/
def execInPort (n : Byte) (s : State) : Host.Outcome State Fault Refusal :=
  inputFrom n s

end Sys2Proof.Machine
end

