-- ==== Sys2Proof/Machine/Arithmetic.lean ====
section
/-! DEFINITION. The arithmetic instructions (spec/41_arithmetic.md R140 to R159), and the ALU forms that the logical
instructions share. -/

namespace Sys2Proof.Machine

/-- Writes A and the flags from a generator and ends a one-byte instruction. -/
def withA (r : Byte × Flags) (cycles : Nat) (s : State) : Host.Outcome State Fault Refusal :=
  .next ({ s with a := r.1, flags := r.2 }.advance 1 cycles)

/-- An ALU operation on A and a value: A and the flags after it. -/
def State.alu (s : State) (op : AluOp) (v : Byte) : State :=
  { s with a := aluA op s.a (aluF op s.a v s.flags).1, flags := (aluF op s.a v s.flags).2 }

/-- The register forms `10aaasss` (R140, R143, R146, R149; 42_logical.md R170, R173, R176, R179). -/
def aluReg (op : AluOp) (src : Reg) (s : State) : Host.Outcome State Fault Refusal :=
  .next ((s.alu op (s.reg src)).advance 1 4)

/-- The memory forms `10aaa110` (R141, R144, R147, R150; 42_logical.md R171, R174, R177, R180). -/
def aluM (op : AluOp) (s : State) : Host.Outcome State Fault Refusal :=
  .next ((s.alu op s.readM).advance 1 7)

/-- The immediate forms `11aaa110` (R142, R145, R148, R151; 42_logical.md R172, R175, R178, R181). -/
def aluImm (op : AluOp) (n : Byte) (s : State) : Host.Outcome State Fault Refusal :=
  .next ((s.alu op n).advance 2 7)

/-- INR r (R152). -/
def inrReg (dst : Reg) (s : State) : Host.Outcome State Fault Refusal :=
  .next ({ s.setReg dst (incF (s.reg dst) s.flags).1 with flags := (incF (s.reg dst) s.flags).2 }.advance 1 5)

/-- INR M (R153). -/
def inrM (s : State) : Host.Outcome State Fault Refusal :=
  .next ({ s.writeM (incF s.readM s.flags).1 with flags := (incF s.readM s.flags).2 }.advance 1 10)

/-- DCR r (R154). -/
def dcrReg (dst : Reg) (s : State) : Host.Outcome State Fault Refusal :=
  .next ({ s.setReg dst (decF (s.reg dst) s.flags).1 with flags := (decF (s.reg dst) s.flags).2 }.advance 1 5)

/-- DCR M (R155). -/
def dcrM (s : State) : Host.Outcome State Fault Refusal :=
  .next ({ s.writeM (decF s.readM s.flags).1 with flags := (decF s.readM s.flags).2 }.advance 1 10)

/-- INX rp (R156). -/
def inxPair (p : Pair) (s : State) : Host.Outcome State Fault Refusal :=
  .next ((s.setPair p (s.pair p + 1)).advance 1 5)

/-- DCX rp (R157). -/
def dcxPair (p : Pair) (s : State) : Host.Outcome State Fault Refusal :=
  .next ((s.setPair p (s.pair p - 1)).advance 1 5)

/-- DAD rp (R158): CY is the only flag written. -/
def dadPair (p : Pair) (s : State) : Host.Outcome State Fault Refusal :=
  .next ({ s.setHl (s.hl + s.pair p) with
    flags := s.flags.setCy (decide (s.hl.toNat + (s.pair p).toNat > 0xFFFF)) }.advance 1 10)

/-- INX B (0x03), R156. -/
def execInxB (s : State) : Host.Outcome State Fault Refusal :=
  inxPair .bc s

/-- INR B (0x04), R152. -/
def execInrB (s : State) : Host.Outcome State Fault Refusal :=
  inrReg .b s

/-- DCR B (0x05), R154. -/
def execDcrB (s : State) : Host.Outcome State Fault Refusal :=
  dcrReg .b s

/-- DAD B (0x09), R158. -/
def execDadB (s : State) : Host.Outcome State Fault Refusal :=
  dadPair .bc s

/-- DCX B (0x0B), R157. -/
def execDcxB (s : State) : Host.Outcome State Fault Refusal :=
  dcxPair .bc s

/-- INR C (0x0C), R152. -/
def execInrC (s : State) : Host.Outcome State Fault Refusal :=
  inrReg .c s

/-- DCR C (0x0D), R154. -/
def execDcrC (s : State) : Host.Outcome State Fault Refusal :=
  dcrReg .c s

/-- INX D (0x13), R156. -/
def execInxD (s : State) : Host.Outcome State Fault Refusal :=
  inxPair .de s

/-- INR D (0x14), R152. -/
def execInrD (s : State) : Host.Outcome State Fault Refusal :=
  inrReg .d s

/-- DCR D (0x15), R154. -/
def execDcrD (s : State) : Host.Outcome State Fault Refusal :=
  dcrReg .d s

/-- DAD D (0x19), R158. -/
def execDadD (s : State) : Host.Outcome State Fault Refusal :=
  dadPair .de s

/-- DCX D (0x1B), R157. -/
def execDcxD (s : State) : Host.Outcome State Fault Refusal :=
  dcxPair .de s

/-- INR E (0x1C), R152. -/
def execInrE (s : State) : Host.Outcome State Fault Refusal :=
  inrReg .e s

/-- DCR E (0x1D), R154. -/
def execDcrE (s : State) : Host.Outcome State Fault Refusal :=
  dcrReg .e s

/-- INX H (0x23), R156. -/
def execInxH (s : State) : Host.Outcome State Fault Refusal :=
  inxPair .hl s

/-- INR H (0x24), R152. -/
def execInrH (s : State) : Host.Outcome State Fault Refusal :=
  inrReg .h s

/-- DCR H (0x25), R154. -/
def execDcrH (s : State) : Host.Outcome State Fault Refusal :=
  dcrReg .h s

/-- DAA (0x27), R159. -/
def execDaa (s : State) : Host.Outcome State Fault Refusal :=
  withA (daaF s.a s.flags) 4 s

/-- DAD H (0x29), R158. -/
def execDadH (s : State) : Host.Outcome State Fault Refusal :=
  dadPair .hl s

/-- DCX H (0x2B), R157. -/
def execDcxH (s : State) : Host.Outcome State Fault Refusal :=
  dcxPair .hl s

/-- INR L (0x2C), R152. -/
def execInrL (s : State) : Host.Outcome State Fault Refusal :=
  inrReg .l s

/-- DCR L (0x2D), R154. -/
def execDcrL (s : State) : Host.Outcome State Fault Refusal :=
  dcrReg .l s

/-- INX SP (0x33), R156. -/
def execInxSp (s : State) : Host.Outcome State Fault Refusal :=
  inxPair .sp s

/-- INR M (0x34), R153. -/
def execInrM (s : State) : Host.Outcome State Fault Refusal :=
  inrM s

/-- DCR M (0x35), R155. -/
def execDcrM (s : State) : Host.Outcome State Fault Refusal :=
  dcrM s

/-- DAD SP (0x39), R158. -/
def execDadSp (s : State) : Host.Outcome State Fault Refusal :=
  dadPair .sp s

/-- DCX SP (0x3B), R157. -/
def execDcxSp (s : State) : Host.Outcome State Fault Refusal :=
  dcxPair .sp s

/-- INR A (0x3C), R152. -/
def execInrA (s : State) : Host.Outcome State Fault Refusal :=
  inrReg .a s

/-- DCR A (0x3D), R154. -/
def execDcrA (s : State) : Host.Outcome State Fault Refusal :=
  dcrReg .a s

/-- ADD B (0x80), R140. -/
def execAddB (s : State) : Host.Outcome State Fault Refusal :=
  aluReg .add .b s

/-- ADD C (0x81), R140. -/
def execAddC (s : State) : Host.Outcome State Fault Refusal :=
  aluReg .add .c s

/-- ADD D (0x82), R140. -/
def execAddD (s : State) : Host.Outcome State Fault Refusal :=
  aluReg .add .d s

/-- ADD E (0x83), R140. -/
def execAddE (s : State) : Host.Outcome State Fault Refusal :=
  aluReg .add .e s

/-- ADD H (0x84), R140. -/
def execAddH (s : State) : Host.Outcome State Fault Refusal :=
  aluReg .add .h s

/-- ADD L (0x85), R140. -/
def execAddL (s : State) : Host.Outcome State Fault Refusal :=
  aluReg .add .l s

/-- ADD M (0x86), R141. -/
def execAddM (s : State) : Host.Outcome State Fault Refusal :=
  aluM .add s

/-- ADD A (0x87), R140. -/
def execAddA (s : State) : Host.Outcome State Fault Refusal :=
  aluReg .add .a s

/-- ADC B (0x88), R143. -/
def execAdcB (s : State) : Host.Outcome State Fault Refusal :=
  aluReg .adc .b s

/-- ADC C (0x89), R143. -/
def execAdcC (s : State) : Host.Outcome State Fault Refusal :=
  aluReg .adc .c s

/-- ADC D (0x8A), R143. -/
def execAdcD (s : State) : Host.Outcome State Fault Refusal :=
  aluReg .adc .d s

/-- ADC E (0x8B), R143. -/
def execAdcE (s : State) : Host.Outcome State Fault Refusal :=
  aluReg .adc .e s

/-- ADC H (0x8C), R143. -/
def execAdcH (s : State) : Host.Outcome State Fault Refusal :=
  aluReg .adc .h s

/-- ADC L (0x8D), R143. -/
def execAdcL (s : State) : Host.Outcome State Fault Refusal :=
  aluReg .adc .l s

/-- ADC M (0x8E), R144. -/
def execAdcM (s : State) : Host.Outcome State Fault Refusal :=
  aluM .adc s

/-- ADC A (0x8F), R143. -/
def execAdcA (s : State) : Host.Outcome State Fault Refusal :=
  aluReg .adc .a s

/-- SUB B (0x90), R146. -/
def execSubB (s : State) : Host.Outcome State Fault Refusal :=
  aluReg .sub .b s

/-- SUB C (0x91), R146. -/
def execSubC (s : State) : Host.Outcome State Fault Refusal :=
  aluReg .sub .c s

/-- SUB D (0x92), R146. -/
def execSubD (s : State) : Host.Outcome State Fault Refusal :=
  aluReg .sub .d s

/-- SUB E (0x93), R146. -/
def execSubE (s : State) : Host.Outcome State Fault Refusal :=
  aluReg .sub .e s

/-- SUB H (0x94), R146. -/
def execSubH (s : State) : Host.Outcome State Fault Refusal :=
  aluReg .sub .h s

/-- SUB L (0x95), R146. -/
def execSubL (s : State) : Host.Outcome State Fault Refusal :=
  aluReg .sub .l s

/-- SUB M (0x96), R147. -/
def execSubM (s : State) : Host.Outcome State Fault Refusal :=
  aluM .sub s

/-- SUB A (0x97), R146. -/
def execSubA (s : State) : Host.Outcome State Fault Refusal :=
  aluReg .sub .a s

/-- SBB B (0x98), R149. -/
def execSbbB (s : State) : Host.Outcome State Fault Refusal :=
  aluReg .sbb .b s

/-- SBB C (0x99), R149. -/
def execSbbC (s : State) : Host.Outcome State Fault Refusal :=
  aluReg .sbb .c s

/-- SBB D (0x9A), R149. -/
def execSbbD (s : State) : Host.Outcome State Fault Refusal :=
  aluReg .sbb .d s

/-- SBB E (0x9B), R149. -/
def execSbbE (s : State) : Host.Outcome State Fault Refusal :=
  aluReg .sbb .e s

/-- SBB H (0x9C), R149. -/
def execSbbH (s : State) : Host.Outcome State Fault Refusal :=
  aluReg .sbb .h s

/-- SBB L (0x9D), R149. -/
def execSbbL (s : State) : Host.Outcome State Fault Refusal :=
  aluReg .sbb .l s

/-- SBB M (0x9E), R150. -/
def execSbbM (s : State) : Host.Outcome State Fault Refusal :=
  aluM .sbb s

/-- SBB A (0x9F), R149. -/
def execSbbA (s : State) : Host.Outcome State Fault Refusal :=
  aluReg .sbb .a s

/-- ADI d8 (0xC6), R142. -/
def execAdi (n : Byte) (s : State) : Host.Outcome State Fault Refusal :=
  aluImm .add n s

/-- ACI d8 (0xCE), R145. -/
def execAci (n : Byte) (s : State) : Host.Outcome State Fault Refusal :=
  aluImm .adc n s

/-- SUI d8 (0xD6), R148. -/
def execSui (n : Byte) (s : State) : Host.Outcome State Fault Refusal :=
  aluImm .sub n s

/-- SBI d8 (0xDE), R151. -/
def execSbi (n : Byte) (s : State) : Host.Outcome State Fault Refusal :=
  aluImm .sbb n s

end Sys2Proof.Machine
end

