-- ==== Sys2Proof/Machine/Logical.lean ====
section
/-! DEFINITION. The logical, compare, rotate and carry instructions (spec/42_logical.md R170 to R188). The ALU forms are those of
Machine/Arithmetic.lean. -/

namespace Sys2Proof.Machine

/-- RLC (0x07), R182. -/
def execRlc (s : State) : Host.Outcome State Fault Refusal :=
  withA (rlcF s.a s.flags) 4 s

/-- RRC (0x0F), R183. -/
def execRrc (s : State) : Host.Outcome State Fault Refusal :=
  withA (rrcF s.a s.flags) 4 s

/-- RAL (0x17), R184. -/
def execRal (s : State) : Host.Outcome State Fault Refusal :=
  withA (ralF s.a s.flags) 4 s

/-- RAR (0x1F), R185. -/
def execRar (s : State) : Host.Outcome State Fault Refusal :=
  withA (rarF s.a s.flags) 4 s

/-- CMA (0x2F), R186. -/
def execCma (s : State) : Host.Outcome State Fault Refusal :=
  withA (~~~s.a, s.flags) 4 s

/-- STC (0x37), R188. -/
def execStc (s : State) : Host.Outcome State Fault Refusal :=
  withA (s.a, s.flags.setCy true) 4 s

/-- CMC (0x3F), R187. -/
def execCmc (s : State) : Host.Outcome State Fault Refusal :=
  withA (s.a, s.flags.setCy (!s.flags.cy)) 4 s

/-- ANA B (0xA0), R170. -/
def execAnaB (s : State) : Host.Outcome State Fault Refusal :=
  aluReg .ana .b s

/-- ANA C (0xA1), R170. -/
def execAnaC (s : State) : Host.Outcome State Fault Refusal :=
  aluReg .ana .c s

/-- ANA D (0xA2), R170. -/
def execAnaD (s : State) : Host.Outcome State Fault Refusal :=
  aluReg .ana .d s

/-- ANA E (0xA3), R170. -/
def execAnaE (s : State) : Host.Outcome State Fault Refusal :=
  aluReg .ana .e s

/-- ANA H (0xA4), R170. -/
def execAnaH (s : State) : Host.Outcome State Fault Refusal :=
  aluReg .ana .h s

/-- ANA L (0xA5), R170. -/
def execAnaL (s : State) : Host.Outcome State Fault Refusal :=
  aluReg .ana .l s

/-- ANA M (0xA6), R171. -/
def execAnaM (s : State) : Host.Outcome State Fault Refusal :=
  aluM .ana s

/-- ANA A (0xA7), R170. -/
def execAnaA (s : State) : Host.Outcome State Fault Refusal :=
  aluReg .ana .a s

/-- XRA B (0xA8), R173. -/
def execXraB (s : State) : Host.Outcome State Fault Refusal :=
  aluReg .xra .b s

/-- XRA C (0xA9), R173. -/
def execXraC (s : State) : Host.Outcome State Fault Refusal :=
  aluReg .xra .c s

/-- XRA D (0xAA), R173. -/
def execXraD (s : State) : Host.Outcome State Fault Refusal :=
  aluReg .xra .d s

/-- XRA E (0xAB), R173. -/
def execXraE (s : State) : Host.Outcome State Fault Refusal :=
  aluReg .xra .e s

/-- XRA H (0xAC), R173. -/
def execXraH (s : State) : Host.Outcome State Fault Refusal :=
  aluReg .xra .h s

/-- XRA L (0xAD), R173. -/
def execXraL (s : State) : Host.Outcome State Fault Refusal :=
  aluReg .xra .l s

/-- XRA M (0xAE), R174. -/
def execXraM (s : State) : Host.Outcome State Fault Refusal :=
  aluM .xra s

/-- XRA A (0xAF), R173. -/
def execXraA (s : State) : Host.Outcome State Fault Refusal :=
  aluReg .xra .a s

/-- ORA B (0xB0), R176. -/
def execOraB (s : State) : Host.Outcome State Fault Refusal :=
  aluReg .ora .b s

/-- ORA C (0xB1), R176. -/
def execOraC (s : State) : Host.Outcome State Fault Refusal :=
  aluReg .ora .c s

/-- ORA D (0xB2), R176. -/
def execOraD (s : State) : Host.Outcome State Fault Refusal :=
  aluReg .ora .d s

/-- ORA E (0xB3), R176. -/
def execOraE (s : State) : Host.Outcome State Fault Refusal :=
  aluReg .ora .e s

/-- ORA H (0xB4), R176. -/
def execOraH (s : State) : Host.Outcome State Fault Refusal :=
  aluReg .ora .h s

/-- ORA L (0xB5), R176. -/
def execOraL (s : State) : Host.Outcome State Fault Refusal :=
  aluReg .ora .l s

/-- ORA M (0xB6), R177. -/
def execOraM (s : State) : Host.Outcome State Fault Refusal :=
  aluM .ora s

/-- ORA A (0xB7), R176. -/
def execOraA (s : State) : Host.Outcome State Fault Refusal :=
  aluReg .ora .a s

/-- CMP B (0xB8), R179. -/
def execCmpB (s : State) : Host.Outcome State Fault Refusal :=
  aluReg .cmp .b s

/-- CMP C (0xB9), R179. -/
def execCmpC (s : State) : Host.Outcome State Fault Refusal :=
  aluReg .cmp .c s

/-- CMP D (0xBA), R179. -/
def execCmpD (s : State) : Host.Outcome State Fault Refusal :=
  aluReg .cmp .d s

/-- CMP E (0xBB), R179. -/
def execCmpE (s : State) : Host.Outcome State Fault Refusal :=
  aluReg .cmp .e s

/-- CMP H (0xBC), R179. -/
def execCmpH (s : State) : Host.Outcome State Fault Refusal :=
  aluReg .cmp .h s

/-- CMP L (0xBD), R179. -/
def execCmpL (s : State) : Host.Outcome State Fault Refusal :=
  aluReg .cmp .l s

/-- CMP M (0xBE), R180. -/
def execCmpM (s : State) : Host.Outcome State Fault Refusal :=
  aluM .cmp s

/-- CMP A (0xBF), R179. -/
def execCmpA (s : State) : Host.Outcome State Fault Refusal :=
  aluReg .cmp .a s

/-- ANI d8 (0xE6), R172. -/
def execAni (n : Byte) (s : State) : Host.Outcome State Fault Refusal :=
  aluImm .ana n s

/-- XRI d8 (0xEE), R175. -/
def execXri (n : Byte) (s : State) : Host.Outcome State Fault Refusal :=
  aluImm .xra n s

/-- ORI d8 (0xF6), R178. -/
def execOri (n : Byte) (s : State) : Host.Outcome State Fault Refusal :=
  aluImm .ora n s

/-- CPI d8 (0xFE), R181. -/
def execCpi (n : Byte) (s : State) : Host.Outcome State Fault Refusal :=
  aluImm .cmp n s

end Sys2Proof.Machine
end

