-- ==== Sys2Proof/Machine/StackControl.lean ====
section
/-! DEFINITION. The stack and machine-control instructions (spec/44_stack_control.md R231 to R244). -/

namespace Sys2Proof.Machine

/-- PUSH rp (R231). -/
def pushPair (p : StackPair) (s : State) : Host.Outcome State Fault Refusal :=
  .next ((s.push16 (s.stackPair p)).advance 1 11)

/-- PUSH PSW (R232): F goes to SP and A to SP + 1. -/
def pushPsw (s : State) : Host.Outcome State Fault Refusal :=
  .next ((s.push16 s.psw).advance 1 11)

/-- POP rp (R233). -/
def popPair (p : StackPair) (s : State) : Host.Outcome State Fault Refusal :=
  .next ((s.drop16.setStackPair p s.top16).advance 1 10)

/-- POP PSW (R234): F through the mask of 10_state.md R27. -/
def popPsw (s : State) : Host.Outcome State Fault Refusal :=
  .next ({ s.drop16 with flags := Flags.unpack s.top16.lo, a := s.top16.hi }.advance 1 10)

/-- NOP (R240). -/
def noOperation (s : State) : Host.Outcome State Fault Refusal :=
  .next (s.advance 1 4)

/-- NOP (0x00), R240. -/
def execNop (s : State) : Host.Outcome State Fault Refusal :=
  noOperation s

/-- NOP* (0x08), R241. -/
def execNop08 (s : State) : Host.Outcome State Fault Refusal :=
  noOperation s

/-- NOP* (0x10), R241. -/
def execNop10 (s : State) : Host.Outcome State Fault Refusal :=
  noOperation s

/-- NOP* (0x18), R241. -/
def execNop18 (s : State) : Host.Outcome State Fault Refusal :=
  noOperation s

/-- NOP* (0x20), R241. -/
def execNop20 (s : State) : Host.Outcome State Fault Refusal :=
  noOperation s

/-- NOP* (0x28), R241. -/
def execNop28 (s : State) : Host.Outcome State Fault Refusal :=
  noOperation s

/-- NOP* (0x30), R241. -/
def execNop30 (s : State) : Host.Outcome State Fault Refusal :=
  noOperation s

/-- NOP* (0x38), R241. -/
def execNop38 (s : State) : Host.Outcome State Fault Refusal :=
  noOperation s

/-- HLT (0x76), R244. -/
def execHlt (s : State) : Host.Outcome State Fault Refusal :=
  .next (s.stop.advance 1 7)

/-- POP B (0xC1), R233. -/
def execPopB (s : State) : Host.Outcome State Fault Refusal :=
  popPair .bc s

/-- PUSH B (0xC5), R231. -/
def execPushB (s : State) : Host.Outcome State Fault Refusal :=
  pushPair .bc s

/-- POP D (0xD1), R233. -/
def execPopD (s : State) : Host.Outcome State Fault Refusal :=
  popPair .de s

/-- PUSH D (0xD5), R231. -/
def execPushD (s : State) : Host.Outcome State Fault Refusal :=
  pushPair .de s

/-- POP H (0xE1), R233. -/
def execPopH (s : State) : Host.Outcome State Fault Refusal :=
  popPair .hl s

/-- XTHL (0xE3), R235. -/
def execXthl (s : State) : Host.Outcome State Fault Refusal :=
  .next (((s.writeWord s.sp s.hl).setHl s.top16).advance 1 18)

/-- PUSH H (0xE5), R231. -/
def execPushH (s : State) : Host.Outcome State Fault Refusal :=
  pushPair .hl s

/-- POP PSW (0xF1), R234. -/
def execPopPsw (s : State) : Host.Outcome State Fault Refusal :=
  popPsw s

/-- DI (0xF3), R243. -/
def execDi (s : State) : Host.Outcome State Fault Refusal :=
  .next ({ s with ie := false }.advance 1 4)

/-- PUSH PSW (0xF5), R232. -/
def execPushPsw (s : State) : Host.Outcome State Fault Refusal :=
  pushPsw s

/-- SPHL (0xF9), R236. -/
def execSphl (s : State) : Host.Outcome State Fault Refusal :=
  .next ({ s with sp := s.hl }.advance 1 5)

/-- EI (0xFB), R242. -/
def execEi (s : State) : Host.Outcome State Fault Refusal :=
  .next ({ s with ie := true }.advance 1 4)

end Sys2Proof.Machine
end

