-- ==== Sys2Proof/Machine/Video.lean ====
section
/-! DEFINITION. The video rasterizer (spec/60_exceptions.md R320 to R327): the colour lookup, the VRAM decoder and `Video.Step`. -/

namespace Sys2Proof.Machine

/-! ### The screen (R326) -/

/-- The number of pixel (x, y): row-major, `y * 224 + x` (R326). -/
def pixelIndex (x y : Nat) : Nat := y * Config.width + x

/-- How many pixels a screen has. -/
def screenSize : Nat := Config.width * Config.height

/-- How many pixels a half of the screen has. -/
def halfSize : Nat := Config.width * 128

/-- The listed words of the pixels `start` to `start + count - 1` of a screen given pixel by pixel, the default left out. -/
def renderRange (dflt : Pixel) (f : Nat → Nat → Pixel) (start count : Nat) : Screen :=
  (List.range count).filterMap (fun k =>
    let word := f ((start + k) % Config.width) ((start + k) / Config.width)
    if word = dflt then none else some (start + k, word))

/-! ### The foreground colour (R320, R323) -/

/-- Whether a rectangle covers a coordinate of one axis: half-open bounds, and `min = max = 0` ignores the axis (R320; D18). -/
def axisCovers (min max v : Nat) : Bool :=
  (decide (min = 0) && decide (max = 0)) || (decide (min ≤ v) && decide (v < max))

/-- `inX(r, x) and inY(r, y)` (R320). -/
def rectCovers (r : Rect) (x y : Nat) : Bool :=
  axisCovers r.xMin r.xMax x && axisCovers r.yMin r.yMax y

/-- A descriptor's ARGB colour as the core writes it: alpha 0xFF, its red, green and blue as given (R326).
DEDUCED, unsafe for a colour given with another alpha (log entry 20). -/
def opaqueColour (colour : Pixel) : Pixel := Config.black ||| colour

/-- The colour of the first rectangle that covers (x, y), white where none does (R320, R326; D17). -/
def overlayColour : List Rect → Nat → Nat → Pixel
  | [], _, _ => Config.white
  | r :: rest, x, y => if rectCovers r x y then opaqueColour r.colour else overlayColour rest x y

/-- The index into the colour PROM for (x, y) (R323). -/
def promIndex (x y : Nat) : Nat :=
  let origX := 255 - y
  let origY := x
  let offs := origY * 32 + origX / 8
  (offs / 256) * 32 + offs % 32 + 0x80

/-- The colour of a PROM byte: bit 0 red, bit 1 blue, bit 2 green, bits 3 to 7 ignored (R323). -/
def promColour (v : Byte) : Pixel :=
  Config.black ||| (if v[0] then 0xFF0000 else 0) ||| (if v[2] then 0x00FF00 else 0) ||| (if v[1] then 0x0000FF else 0)

/-- The entry of the LUT for (x, y) (R320, R323). -/
def lutEntry (scheme : ColourScheme) (x y : Nat) : Pixel :=
  match scheme with
  | .none => Config.white
  | .overlay rects => overlayColour rects x y
  | .prom bytes => promColour (bytes.getD (promIndex x y) 0)

/-- The LUT of a scheme (R320). -/
def lutOf (scheme : ColourScheme) : Screen :=
  renderRange Config.white (lutEntry scheme) 0 screenSize

/-- `LUT[y][x]`. -/
def State.lutAt (s : State) (x y : Nat) : Pixel :=
  cellsRead Config.white s.lut (pixelIndex x y)

/-- `FB[y][x]`. -/
def State.fbAt (s : State) (x y : Nat) : Pixel :=
  cellsRead Config.black s.fb (pixelIndex x y)

/-! ### The bitplane (R321, R322) -/

/-- The VRAM address of pixel (x, y) (R321). -/
def vramAddr (x y : Nat) : Word :=
  BitVec.ofNat 16 (Config.vramBase + x * 32 + (255 - y) / 8)

/-- `pixel(x, y)` (R321). -/
def State.pixelOn (s : State) (x y : Nat) : Bool :=
  (s.readByte (vramAddr x y)).getLsbD (7 - y % 8)

/-- `colour(x, y)` (R322). -/
def State.colour (s : State) (x y : Nat) : Pixel :=
  if s.pixelOn x y then s.lutAt x y else Config.black

/-! ### `Video.Step` (R324, R325) -/

/-- The first row of a half: startY (R36). -/
def Half.firstRow : Half → Nat
  | .top => 0
  | .bottom => 128

/-- The half that the next call scans. -/
def Half.other : Half → Half
  | .top => .bottom
  | .bottom => .top

/-- The interrupt that the end of a half's scan requests (R310, R324). -/
def Half.interrupt : Half → BitVec 3
  | .top => 1
  | .bottom => 2

/-- The framebuffer after the scan of a half: its rows from VRAM, the other half's rows as they were (R324). -/
def State.scan (s : State) (half : Half) : Screen :=
  match half with
  | .top => renderRange Config.black s.colour 0 halfSize ++ s.fb.filter (fun cell => decide (halfSize ≤ cell.1))
  | .bottom => s.fb.filter (fun cell => decide (cell.1 < halfSize)) ++ renderRange Config.black s.colour halfSize halfSize

/-- `Video.Step`: scans the half at startY, toggles startY, and requests that half's interrupt unless Paused (R324, R325; D16). -/
def videoStep (s : State) : State :=
  let scanned := { s with fb := s.scan s.startY, startY := Half.other s.startY }
  if s.paused then scanned else requestInterrupt (Half.interrupt s.startY) scanned

/-! ### The framebuffer as a host serialises it (R326; D19) -/

/-- Byte `k` (0 to 3) of a pixel in the order of the open parameter FB_BYTE_ORDER. -/
def pixelByte (order : FbByteOrder) (word : Pixel) (k : Nat) : Byte :=
  match order with
  | .aFirst => word.extractLsb' (8 * (3 - k)) 8
  | .bFirst => word.extractLsb' (8 * k) 8

/-- The byte of the framebuffer at a byte offset: pixel (x, y) stands at `4 * (y * 224 + x)`. -/
def State.fbByte (s : State) (offset : Nat) : Byte :=
  pixelByte Config.fbByteOrder (cellsRead Config.black s.fb (offset / 4)) (offset % 4)

end Sys2Proof.Machine
end

