-- ==== Sys2Proof/Machine/HostEvents.lean ====
section
/-! DEFINITION. The host's interactions (spec/60_exceptions.md R340 to R343; 70_reset_and_hazards.md R351). -/

namespace Sys2Proof.Machine

/-- `SendInput(port, bit, value)` on a latch (R340). -/
def setLatchBit (v : Byte) (bit : Nat) (value : Bool) : Byte :=
  if value then v ||| (1#8 <<< bit) else v &&& ~~~(1#8 <<< bit)

/-- `SendInput`: one bit of one latch, refused out of range (R340; D24). -/
def sendInput (port bit : Nat) (value : Bool) (s : State) : Result :=
  if h : port < 8 ∧ bit < 8 then
    .next { s with ioPorts := s.ioPorts.set port (setLatchBit (s.ioPorts[port]'h.1) bit value) h.1 }
  else .refused (.sendInputOutOfRange port bit)

/-- SaveState: the fields of 10_state.md R41. -/
def saveState (s : State) : Snapshot where
  a := s.a
  flags := s.flags
  b := s.b
  c := s.c
  d := s.d
  e := s.e
  h := s.h
  l := s.l
  pc := s.pc
  sp := s.sp
  cyc := s.cyc
  so := s.so
  sr := s.sr
  ie := s.ie
  ioPorts := s.ioPorts
  mem := s.mem

/-- LoadState: exactly the fields of R41 (R343). -/
def loadState (snap : Snapshot) (s : State) : State :=
  { s with
    a := snap.a, flags := snap.flags, b := snap.b, c := snap.c, d := snap.d, e := snap.e, h := snap.h, l := snap.l
    pc := snap.pc, sp := snap.sp, cyc := snap.cyc, so := snap.so, sr := snap.sr, ie := snap.ie
    ioPorts := snap.ioPorts, mem := snap.mem }

/-- The host's reset (key R): `Init(INITIAL_PC)` and the LUT recomputed; memory, startY, FB, Paused and the sound loops stay
(70_reset_and_hazards.md R351; D36). -/
def hostReset (s : State) : State :=
  { s.init (Config.initialPc s.mode) with lut := lutOf s.scheme }

/-- One host interaction (R341). -/
def applyEvent (ev : HostEvent) (s : State) : Result :=
  match ev with
  | .sendInput port bit value => sendInput port bit value s
  | .togglePause => .next { s with paused := !s.paused }
  | .reset => .next (hostReset s)
  | .save => .next { s with saves := saveState s :: s.saves }
  | .load age =>
    match s.saves[age]? with
    | some snap => .next (loadState snap s)
    | none => .refused .loadWithoutSave
  | .loadCorrupt => .fault .corruptSaveState
  | .shutdown => .next { s with shutdown := true }

/-- The host events of one boundary, in the order sent; a shutdown ends the run, so nothing behind it happens (R334, R341; log entry 24). -/
def applyEvents : List HostEvent → State → Result
  | [], s => .next s
  | ev :: rest, s =>
    match applyEvent ev s with
    | .next t => if t.shutdown then .next t else applyEvents rest t
    | .fault r => .fault r
    | .refused r => .refused r

/-! ### The reference input binding (R342) -/

/-- The keys of the binding; Left, Right and Fire belong to a player (D28). -/
inductive Key where
  | coin
  | start1
  | start2
  | left (player2 : Bool)
  | right (player2 : Bool)
  | fire (player2 : Bool)
  deriving DecidableEq, Repr

/-- The port of a player's controls (R342; D28). -/
def playerPort (player2 : Bool) : Nat := if player2 then 2 else 1

/-- The event of pressing or releasing a key (R342). -/
def keyEvent (key : Key) (pressed : Bool) : HostEvent :=
  match key with
  | .coin => .sendInput 1 0 pressed
  | .start1 => .sendInput 1 2 pressed
  | .start2 => .sendInput 1 1 pressed
  | .left player2 => .sendInput (playerPort player2) 5 pressed
  | .right player2 => .sendInput (playerPort player2) 6 pressed
  | .fire player2 => .sendInput (playerPort player2) 4 pressed

end Sys2Proof.Machine
end

