-- ==== Sys2Proof/Machine/Scheduler.lean ====
section
/-! DEFINITION. The frame scheduler (spec/60_exceptions.md R330 to R335): what happens around the CPU's steps. -/

namespace Sys2Proof.Machine

/-- The host events of the next frame boundary: the first batch of HOST_SCHEDULE, none when it is used up (R341; log entry 7). -/
def hostTurn (s : State) : Result :=
  match s.schedule with
  | [] => .next s
  | batch :: rest => applyEvents batch { s with schedule := rest }

/-- A frame boundary: ACC to zero, `Video.Step`, then the host events (R330 to R332; D21). -/
def frameBoundary (s : State) : Result :=
  hostTurn (videoStep { s with acc := 0 })

/-- The count a CPU step returns: what it added to CYC (10_state.md R30; log entry 4). -/
def cyclesConsumed (s t : State) : Nat :=
  (t.cyc - s.cyc).toNat

/-- What the scheduler does after the CPU step from `s` to `t`: ACC grows by the step's count; a stop ends the run at once; a full
budget ends the frame (R331, R332; D20, D33). -/
def afterStep (s t : State) : Result :=
  let counted := { t with acc := s.acc + cyclesConsumed s t }
  if counted.running then
    if Config.cyclesPerFrame ≤ counted.acc then frameBoundary counted else .next counted
  else .next counted

/-- A tick while paused, in throttled mode: no CPU step, `Video.Step` and the host events (R331). -/
def pausedTick (s : State) : Result :=
  hostTurn (videoStep s)

/-- Whether the scheduler's next turn runs no CPU step: throttled and Paused (R331). Unthrottled mode does not read Paused (R332; D31). -/
def State.held (s : State) : Bool := s.throttled && s.paused

/-- Whether the run is over: Running is false, or the host has shut down (R334). -/
def State.over (s : State) : Bool := !s.running || s.shutdown

/-- Whether the next turn of the scheduler runs a CPU step. -/
def State.live (s : State) : Bool := !s.over && !s.held

/-! ### Placing one instruction (for the host's questions about single rows) -/

/-- `bytes` stored from PC on, in a machine whose next turn runs a CPU step: running, not shut down, and not held by a pause. -/
def State.withBytesAtPc (s : State) (bytes : List Byte) : State :=
  { s with
    mem := Memory.writeBytes s.mem s.pc bytes
    running := true
    shutdown := false
    paused := s.paused && !s.throttled }

end Sys2Proof.Machine
end

