-- ==== Sys2Proof/Machine/Step.lean ====
section
/-! DEFINITION. One step: one turn of the scheduler's loop (spec/60_exceptions.md R331, R332), with one CPU instruction in it unless the
machine is held by a pause. -/

namespace Sys2Proof.Machine

/-- One CPU step, `CPU.Step()`: fetch, decode, execute (30_encoding.md R84). A fetch that does not decode is
UNIMPLEMENTED_OPCODE (60_exceptions.md R302). -/
def cpuStep (s : State) : Host.Outcome State Fault Refusal :=
  match decode s.fetch with
  | .ok (i, _) => exec i s
  | .error _ => .fault (.unimplementedOpcode (s.readByte s.pc) s.pc)

/-- One turn of the scheduler. -/
def step (s : State) : Host.Outcome State Fault Refusal :=
  if s.over then .refused .runOver
  else if s.held then pausedTick s
  else
    match cpuStep s with
    | .next t => afterStep s t
    | .fault r => .fault r
    | .refused r => .refused r

/-- `s` with the instruction of bits `w`, numbered as spec/opcode_table.json numbers them, stored at PC. -/
def State.withFetchWord (s : State) (nbits w : Nat) : State :=
  s.withBytesAtPc (tableBytes nbits w)

end Sys2Proof.Machine
end

