-- ==== Sys2Proof/Machine/Launch.lean ====
section
/-! DEFINITION. Loading and the launch sequence (spec/70_reset_and_hazards.md R353, R355, R356; 60_exceptions.md R301, R320). -/

namespace Sys2Proof.Machine

/-- What a game descriptor finds for one ROM part. -/
inductive RomMember where
  | missing
  | bad
  | data (bytes : List Byte)
  deriving DecidableEq, Repr

/-- One ROM part: where it starts, the size the descriptor declares, and what was found (R355). -/
structure RomPart where
  startAddr    : Nat
  expectedSize : Nat
  member       : RomMember
  deriving DecidableEq, Repr

/-- `ROM_IMAGE` (00_scope.md R7; R355): a flat binary, or the parts of a descriptor in its order. -/
inductive RomImage where
  | flat (member : RomMember)
  | parts (parts : List RomPart)
  deriving DecidableEq, Repr

/-- The load-time parameters (00_scope.md R5, R7, R8), and the snapshots that the host holds from saves of earlier runs, newest first
(60_exceptions.md R341: "a snapshot from an earlier save"; DESIGN CHOICE, safe, log entry 30). -/
structure LaunchParams where
  mode      : Mode
  image     : RomImage
  scheme    : ColourScheme
  throttled : Bool
  schedule  : List (List HostEvent)
  saves     : List Snapshot
  deriving DecidableEq, Repr

/-- CONFIG_ERROR and its cause (60_exceptions.md R301; R355; D25, D38). No run exists then. -/
inductive ConfigError where
  | missingRom
  | badZipMember
  | sizeMismatch
  | imagePastTop
  | overlappingOverlays
  | promSize
  deriving DecidableEq, Repr

/-- The base address of a flat binary (R355). -/
def flatBase (mode : Mode) : Nat := (Config.initialPc mode).toNat

/-- Writes bytes from an address on; an image that runs past 0xFFFF is a CONFIG_ERROR (D38). -/
def loadAt (startAddr : Nat) (bytes : List Byte) (m : Memory) : Except ConfigError Memory :=
  if startAddr + bytes.length ≤ 65536 then
    .ok (Memory.writeBytes m (BitVec.ofNat 16 startAddr) bytes)
  else .error .imagePastTop

/-- Loads one part (R355). -/
def loadPart (part : RomPart) (m : Memory) : Except ConfigError Memory :=
  match part.member with
  | .missing => .error .missingRom
  | .bad => .error .badZipMember
  | .data bytes =>
    if bytes.length = part.expectedSize then loadAt part.startAddr bytes m else .error .sizeMismatch

/-- Loads parts in descriptor order, a later part over an earlier one (R355; D38). -/
def loadParts : List RomPart → Memory → Except ConfigError Memory
  | [], m => .ok m
  | part :: rest, m =>
    match loadPart part m with
    | .ok m' => loadParts rest m'
    | .error e => .error e

/-- Loads `ROM_IMAGE` (R355). -/
def loadImage (mode : Mode) (image : RomImage) (m : Memory) : Except ConfigError Memory :=
  match image with
  | .flat .missing => .error .missingRom
  | .flat .bad => .error .badZipMember
  | .flat (.data bytes) => loadAt (flatBase mode) bytes m
  | .parts parts => loadParts parts m

/-- The CP/M patch (R356; 90_conflicts.md C9). -/
def cpmPatch (m : Memory) : Memory :=
  Memory.writeBytes (Memory.writeBytes m 0x0000 [0xD3, 0x00]) 0x0005 [0xD3, 0x01, 0xC9]

/-- The patch of a mode: none in ARCADE mode. -/
def patchFor (mode : Mode) (m : Memory) : Memory :=
  match mode with
  | .arcade => m
  | .cpm => cpmPatch m

/-- Whether a rectangle bounds both axes (D25). -/
def rectBounded (r : Rect) : Bool :=
  !(decide (r.xMin = 0) && decide (r.xMax = 0)) && !(decide (r.yMin = 0) && decide (r.yMax = 0))

/-- Whether two ranges, cut to `[0, size)`, share a coordinate. -/
def rangesMeet (min1 max1 min2 max2 size : Nat) : Bool :=
  decide (max min1 min2 < min (min max1 max2) size)

/-- Whether two rectangles overlap: both bound both axes and share a pixel (D25). -/
def rectsOverlap (r1 r2 : Rect) : Bool :=
  rectBounded r1 && rectBounded r2
    && rangesMeet r1.xMin r1.xMax r2.xMin r2.xMax Config.width
    && rangesMeet r1.yMin r1.yMax r2.yMin r2.yMax Config.height

/-- Whether any two rectangles of a list overlap. -/
def anyOverlap : List Rect → Bool
  | [] => false
  | r :: rest => rest.any (rectsOverlap r) || anyOverlap rest

/-- The load check of a colour scheme (60_exceptions.md R320; 00_scope.md R6, R7). -/
def checkScheme (scheme : ColourScheme) : Except ConfigError Unit :=
  match scheme with
  | .none => .ok ()
  | .overlay rects => if anyOverlap rects then .error .overlappingOverlays else .ok ()
  | .prom bytes => if bytes.length = Config.promSize then .ok () else .error .promSize

/-- The machine at the end of the launch sequence, from its memory (R353 steps 4 and 5). R341 does not say whether a load may take a
snapshot saved in an earlier run: the launch leaves it open, and the machine starts with whatever snapshots the parameters give, none or
any number (DESIGN CHOICE, safe, log entry 30). -/
def startState (p : LaunchParams) (m : Memory) : State :=
  State.init (Config.initialPc p.mode)
    { State.reset with
      mem := m, startY := .top, fb := [], lut := lutOf p.scheme, paused := false, acc := 0, loops := []
      mode := p.mode, scheme := p.scheme, throttled := p.throttled, schedule := p.schedule
      saves := p.saves }

/-- The launch sequence (R353): memory, ROM image, CP/M patch, video, `Init(INITIAL_PC)`; or the CONFIG_ERROR that stops it. -/
def launch (p : LaunchParams) : Except ConfigError State :=
  match loadImage p.mode p.image [] with
  | .error e => .error e
  | .ok m =>
    match checkScheme p.scheme with
    | .error e => .error e
    | .ok _ => .ok (startState p (patchFor p.mode m))

/-- The parameters that `State.reset` stands for (log entry 1). -/
def defaultParams : LaunchParams where
  mode := .arcade
  image := .flat (.data [])
  scheme := .none
  throttled := false
  schedule := []
  saves := []

end Sys2Proof.Machine
end

