-- ==== Sys2Proof/Safety.lean ====
section
/-! DEFINITION. The terms that claims use: runs, the invariant, what an observer reads at the end of a run, and frames. -/

namespace Sys2Proof.Machine

/-! ### Runs -/

/-- `t` is reached from `s` by steps that all answer a next state. -/
inductive Reaches : State → State → Prop where
  | refl (s : State) : Reaches s s
  | step (s t u : State) : Reaches s t → Sys2Proof.Machine.step t = .next u → Reaches s u

/-! ### The invariant of the machine -/

/-- The canonical form of a screen. -/
def screenWf (dflt : Pixel) (screen : Screen) : Bool :=
  cellsWf dflt screenSize screen

/-- The alpha channel of an ARGB word: bits 31 to 24 (60_exceptions.md R326). -/
def alphaOf (word : Pixel) : Byte := word.extractLsb' 24 8

/-- What every step keeps: the memory, every saved memory and the framebuffer are in canonical form; every word of the framebuffer has
alpha 0xFF (60_exceptions.md R326); the LUT is the one of the colour scheme (R320); ACC is below the frame's budget, or the CPU has
stopped inside a frame that its last instruction had filled (R330, R333); no sound loop is listed twice (10_state.md R38). -/
structure State.Inv (s : State) : Prop where
  mem   : s.mem.wf = true
  saves : ∀ snap ∈ s.saves, Memory.wf snap.mem = true
  fb    : screenWf Config.black s.fb = true
  lut   : s.lut = lutOf s.scheme
  acc   : s.acc < Config.cyclesPerFrame ∨ (s.running = false ∧ s.acc ≤ 33350)
  loops : s.loops.Nodup
  alpha : ∀ cell ∈ s.fb, alphaOf cell.2 = 0xFF

/-! ### What a launch accepts (R301, R320, R355; D18, D25, D38) -/

/-- `inX(r, x) and inY(r, y)`: half-open bounds, and `min = max = 0` ignores the axis (60_exceptions.md R320). -/
def RectContains (r : Rect) (x y : Nat) : Prop :=
  ((r.xMin = 0 ∧ r.xMax = 0) ∨ (r.xMin ≤ x ∧ x < r.xMax)) ∧ ((r.yMin = 0 ∧ r.yMax = 0) ∨ (r.yMin ≤ y ∧ y < r.yMax))

/-- A rectangle that bounds both axes (D25). -/
def RectBoundsBoth (r : Rect) : Prop :=
  ¬(r.xMin = 0 ∧ r.xMax = 0) ∧ ¬(r.yMin = 0 ∧ r.yMax = 0)

/-- Two rectangles overlap: both bound both axes, and they share a pixel of the display (D25). -/
def RectsShareAPixel (r1 r2 : Rect) : Prop :=
  RectBoundsBoth r1 ∧ RectBoundsBoth r2 ∧ ∃ x y : Nat, x < 224 ∧ y < 256 ∧ RectContains r1 x y ∧ RectContains r2 x y

/-- A colour scheme that the load check accepts: no two rectangles overlap (R320), a PROM of 1024 bytes (00_scope.md R6). -/
def SchemeAccepted : ColourScheme → Prop
  | .none => True
  | .overlay rects => rects.Pairwise (fun r1 r2 => ¬RectsShareAPixel r1 r2)
  | .prom bytes => bytes.length = 1024

/-- A ROM part that loads: found, of its declared size, and inside the 64 KiB (R355; D38). -/
def PartAccepted (part : RomPart) : Prop :=
  ∃ bytes : List Byte, part.member = .data bytes ∧ bytes.length = part.expectedSize ∧ part.startAddr + bytes.length ≤ 65536

/-- A `ROM_IMAGE` that loads: a flat binary that was found and fits from its base, or parts that all load (R355; D38). -/
def ImageAccepted (mode : Mode) : RomImage → Prop
  | .flat member => ∃ bytes : List Byte, member = .data bytes ∧ (Config.initialPc mode).toNat + bytes.length ≤ 65536
  | .parts parts => ∀ part ∈ parts, PartAccepted part

/-- The cause for which a ROM part stops the launch (R301, R355; D38). -/
def PartRejected (part : RomPart) : ConfigError → Prop
  | .missingRom => part.member = .missing
  | .badZipMember => part.member = .bad
  | .sizeMismatch => ∃ bytes : List Byte, part.member = .data bytes ∧ bytes.length ≠ part.expectedSize
  | .imagePastTop =>
    ∃ bytes : List Byte, part.member = .data bytes ∧ bytes.length = part.expectedSize ∧ 65536 < part.startAddr + bytes.length
  | .overlappingOverlays => False
  | .promSize => False

/-- The byte a ROM part has for an address: byte `i` of its data stands at `startAddr + i` (R355). -/
def partByte (part : RomPart) (addr : Nat) : Option Byte :=
  match part.member with
  | .missing => none
  | .bad => none
  | .data bytes => if part.startAddr ≤ addr then bytes[addr - part.startAddr]? else none

/-- The byte that parts loaded in order leave at an address: that of the last part that has one, 0x00 where none has (R353, R355; D7, D38). -/
def partsByte (parts : List RomPart) (addr : Nat) : Byte :=
  (parts.reverse.findSome? (fun part => partByte part addr)).getD 0x00

/-- The addresses of the CP/M patch (70_reset_and_hazards.md R356). -/
def patchAddrs : List Word := [0x0000, 0x0001, 0x0005, 0x0006, 0x0007]

/-! ### Frames: what stays the same -/

/-- Every byte of memory reads as before. -/
def SameMem (s t : State) : Prop :=
  ∀ x : Word, t.readByte x = s.readByte x

/-- Every byte of memory outside `stored` reads as before. -/
def SameMemBut (stored : List Word) (s t : State) : Prop :=
  ∀ x : Word, x ∉ stored → t.readByte x = s.readByte x

/-- Video, scheduler, host and parameters are the same: the state that no instruction touches. -/
structure SameOutside (s t : State) : Prop where
  startY    : t.startY = s.startY
  fb        : t.fb = s.fb
  lut       : t.lut = s.lut
  acc       : t.acc = s.acc
  paused    : t.paused = s.paused
  saves     : t.saves = s.saves
  shutdown  : t.shutdown = s.shutdown
  schedule  : t.schedule = s.schedule
  mode      : t.mode = s.mode
  scheme    : t.scheme = s.scheme
  throttled : t.throttled = s.throttled

/-- The port handler, the outputs and the sound loops are the same. -/
structure SamePorts (s t : State) : Prop where
  sr          : t.sr = s.sr
  so          : t.so = s.so
  ioPorts     : t.ioPorts = s.ioPorts
  outStream   : t.outStream = s.outStream
  soundEvents : t.soundEvents = s.soundEvents
  loops       : t.loops = s.loops

/-- Everything is the same but the byte registers in `written`, the flags, SP, PC, CYC and memory, of which a claim speaks on its own. -/
structure SameBut (written : List Reg) (s t : State) : Prop where
  regs    : ∀ r : Reg, r ∉ written → t.reg r = s.reg r
  ie      : t.ie = s.ie
  running : t.running = s.running
  ports   : SamePorts s t
  outside : SameOutside s t

/-- The instruction ended at `pc + length` and took `cycles` cycles (00_scope.md R12). -/
def EndsAfter (length cycles : Nat) (s t : State) : Prop :=
  t.pc = s.pc + BitVec.ofNat 16 length ∧ t.cyc = s.cyc + BitVec.ofNat 64 cycles

/-- The instruction went to `target` and took `cycles` cycles. -/
def WentTo (target : Word) (cycles : Nat) (s t : State) : Prop :=
  t.pc = target ∧ t.cyc = s.cyc + BitVec.ofNat 64 cycles

/-- Only the byte registers in `written`, PC and CYC may differ. -/
def OnlyRegs (written : List Reg) (s t : State) : Prop :=
  SameBut written s t ∧ t.flags = s.flags ∧ t.sp = s.sp ∧ SameMem s t

/-- Only the byte registers in `written`, the flags, PC and CYC may differ. -/
def OnlyRegsAndFlags (written : List Reg) (s t : State) : Prop :=
  SameBut written s t ∧ t.sp = s.sp ∧ SameMem s t

/-- Only the bytes at `stored`, PC and CYC may differ. -/
def OnlyStores (stored : List Word) (s t : State) : Prop :=
  SameBut [] s t ∧ t.flags = s.flags ∧ t.sp = s.sp ∧ SameMemBut stored s t

/-- Only SP, the bytes at `stored`, PC and CYC may differ. -/
def OnlyStack (stored : List Word) (s t : State) : Prop :=
  SameBut [] s t ∧ t.flags = s.flags ∧ SameMemBut stored s t

/-- Only the byte registers in `written`, SP, PC and CYC may differ. -/
def OnlyRegsAndSp (written : List Reg) (s t : State) : Prop :=
  SameBut written s t ∧ t.flags = s.flags ∧ SameMem s t

/-- `PUSH16(v)` happened (44_stack_control.md R230), and but for PC and CYC nothing else did. -/
def Pushed (v : Word) (s t : State) : Prop :=
  t.sp = s.sp - 2 ∧ t.readByte (s.sp - 2) = v.lo ∧ t.readByte (s.sp - 1) = v.hi ∧ OnlyStack [s.sp - 2, s.sp - 1] s t

/-- The word at the top of the stack: its low byte at SP, its high byte at SP + 1 (R230). -/
def topOfStack (s : State) : Word := Word.ofBytes (s.readByte (s.sp + 1)) (s.readByte s.sp)

/-- Every flag but CY is the same. -/
def SameFlagsButCy (s t : State) : Prop :=
  t.flags.s = s.flags.s ∧ t.flags.z = s.flags.z ∧ t.flags.ac = s.flags.ac ∧ t.flags.p = s.flags.p

/-- `s` with the state outside the CPU, memory and ports taken from `o`: video, scheduler, host and the parameters but MODE. -/
def State.withOutside (s o : State) : State :=
  { s with
    startY := o.startY, fb := o.fb, lut := o.lut, acc := o.acc, paused := o.paused, saves := o.saves
    shutdown := o.shutdown, schedule := o.schedule, scheme := o.scheme, throttled := o.throttled }

end Sys2Proof.Machine

/-! ### Fields as the encoding numbers them (30_encoding.md R82) -/

namespace Sys2Proof

/-- The field value of a register (10_state.md R24). -/
def Reg.number : Reg → Nat
  | .b => 0
  | .c => 1
  | .d => 2
  | .e => 3
  | .h => 4
  | .l => 5
  | .a => 7

/-- The field value of a pair (R25). -/
def Pair.number : Pair → Nat
  | .bc => 0
  | .de => 1
  | .hl => 2
  | .sp => 3

/-- The byte registers of a pair, none for SP (R22). -/
def Pair.regs : Pair → List Reg
  | .bc => [.b, .c]
  | .de => [.d, .e]
  | .hl => [.h, .l]
  | .sp => []

/-- The field value of a pair of LDAX and STAX (R25). -/
def IndexPair.number : IndexPair → Nat
  | .bc => 0
  | .de => 1

/-- The field value of a pair of PUSH and POP (R25). -/
def StackPair.number : StackPair → Nat
  | .bc => 0
  | .de => 1
  | .hl => 2

/-- The high register of a pair (R22). -/
def StackPair.high : StackPair → Reg
  | .bc => .b
  | .de => .d
  | .hl => .h

/-- The low register of a pair (R22). -/
def StackPair.low : StackPair → Reg
  | .bc => .c
  | .de => .e
  | .hl => .l

/-- The field value of a condition (R29). -/
def Cond.number : Cond → Nat
  | .nz => 0
  | .z => 1
  | .nc => 2
  | .c => 3
  | .po => 4
  | .pe => 5
  | .p => 6
  | .m => 7

/-- The field value of an ALU operation (30_encoding.md R82). -/
def AluOp.number : AluOp → Nat
  | .add => 0
  | .adc => 1
  | .sub => 2
  | .sbb => 3
  | .ana => 4
  | .xra => 5
  | .ora => 6
  | .cmp => 7

/-- Whether an opcode is one that writes a flag (10_state.md R28): the ALU operations, INR and DCR, DAD, the rotates, DAA, STC, CMC and POP PSW. -/
def opcodeWritesFlags (op : Byte) : Bool :=
  decide (op &&& 0xC0 = 0x80) || decide (op &&& 0xC7 = 0xC6) || decide (op &&& 0xC6 = 0x04) || decide (op &&& 0xCF = 0x09)
    || (decide (op &&& 0xC7 = 0x07) && !decide (op = 0x2F)) || decide (op = 0xF1)

/-- Whether an opcode is a control transfer (10_state.md R26): a jump, call, return, restart or PCHL. -/
def opcodeTransfers (op : Byte) : Bool :=
  decide (op ∈ ([0xC3, 0xCB, 0xC9, 0xD9, 0xE9, 0xCD, 0xDD, 0xED, 0xFD] : List Byte))
    || decide (op &&& 0xC7 ∈ ([0xC0, 0xC2, 0xC4, 0xC7] : List Byte))

end Sys2Proof

namespace Sys2Proof.Machine

/-! ### The operand of an ALU instruction -/

/-- The three operand forms of an ALU operation: a register, M, an immediate. -/
inductive AluSource where
  | reg (r : Reg)
  | m
  | imm (n : Byte)
  deriving DecidableEq, Repr

/-- The instruction of an ALU operation with an operand form: all 72 of them. -/
def AluSource.instr (op : AluOp) : AluSource → Instr
  | .reg r => .aluReg op r
  | .m => .aluM op
  | .imm n => .aluImm op n

/-- The bytes of the instruction: `10aaasss`, `10aaa110` or `11aaa110` n (30_encoding.md R81). -/
def AluSource.bytes (op : AluOp) : AluSource → List Byte
  | .reg r => [BitVec.ofNat 8 (0x80 + 8 * op.number + r.number)]
  | .m => [BitVec.ofNat 8 (0x86 + 8 * op.number)]
  | .imm n => [BitVec.ofNat 8 (0xC6 + 8 * op.number), n]

/-- The value of an operand form. -/
def AluSource.value (s : State) : AluSource → Byte
  | .reg r => s.reg r
  | .m => s.readByte s.hl
  | .imm n => n

/-- The length of the instruction: 2 with an immediate. -/
def AluSource.length : AluSource → Nat
  | .reg _ => 1
  | .m => 1
  | .imm _ => 2

/-- The cycles of the instruction: 4 with a register, 7 with M or an immediate. -/
def AluSource.cycles : AluSource → Nat
  | .reg _ => 4
  | .m => 7
  | .imm _ => 7

/-! ### Flags as the rules give them -/

/-- The number of one bits of a byte, counted over its bits. -/
def oneBits (r : Byte) : Nat :=
  ((List.finRange 8).filter (fun k => r[k])).length

/-- S, Z and P are those of the result `r` (41_arithmetic.md R130). -/
def SzpOf (r : Byte) (f : Flags) : Prop :=
  f.s = r[7] ∧ (f.z = true ↔ r = 0) ∧ (f.p = true ↔ oneBits r % 2 = 0)

end Sys2Proof.Machine
end

