-- ==== Sys2Proof/Certificates/Slice0/Obligations.lean ====
section
/-! DEFINITION. The statements for the provers. Each docstring names the rule of the spec it formalises. -/

open Sys2Proof Sys2Proof.Machine

/-- O1. Decoding an encoded instruction gives it back. For every instruction and any bytes behind it, decode of encode is that instruction,
with every operand at every value, and the bytes behind it are left. (30_encoding.md R80 to R86, opcode_table.json) -/
def Obligations.DecodeOfEncodeIsTheInstruction : Prop :=
  ∀ (i : Instr) (rest : List Byte), decode (encode i ++ rest) = .ok (i, rest)

/-- O2. Encoding a decoded instruction gives its bytes back. Whenever bytes decode to an instruction, its encoding followed by the bytes
left over is the bytes that were decoded: no bit of an encoding is dropped. (30_encoding.md R80 to R87) -/
def Obligations.EncodeOfDecodeIsTheBytes : Prop :=
  ∀ (bytes rest : List Byte) (i : Instr), decode bytes = .ok (i, rest) → encode i ++ rest = bytes

/-- O3. The opcode byte alone fixes the length, 1, 2 or 3, and every opcode decodes. For every opcode byte there is a length of 1, 2 or 3
such that, whatever the bytes behind it, they decode to an instruction of that opcode and that length, taking just those bytes.
(30_encoding.md R80, R87) -/
def Obligations.EveryOpcodeIsDefinedWithItsLength : Prop :=
  ∀ op : Byte, ∃ n : Nat, 1 ≤ n ∧ n ≤ 3 ∧
    ∀ (b1 b2 : Byte) (rest : List Byte), ∃ i : Instr,
      decode (op :: b1 :: b2 :: rest) = .ok (i, (op :: b1 :: b2 :: rest).drop n) ∧ i.opcode = op ∧ i.length = n ∧
      (n = 2 → encode i = [op, b1]) ∧ (n = 3 → encode i = [op, b1, b2])

/-- O4. A word of each family, written out from the encoding, decodes to its instruction. One word of each family decodes to the instruction
it stands for, with registers, conditions and immediates in their places. (30_encoding.md R81, R83, R85, 95_test_vectors.md) -/
def Obligations.WordsOfTheSpecDecode : Prop :=
  decode [0x41] = .ok (.movBC, []) ∧ decode [0x36, 0x07] = .ok (.mviM 0x07, []) ∧ decode [0x21, 0x34, 0x12] = .ok (.lxiH 0x1234, []) ∧
  decode [0x9D] = .ok (.sbbL, []) ∧ decode [0xCE, 0x7F] = .ok (.aci 0x7F, []) ∧ decode [0x39] = .ok (.dadSp, []) ∧
  decode [0xA6] = .ok (.anaM, []) ∧ decode [0x1F] = .ok (.rar, []) ∧ decode [0xDA, 0x00, 0x20] = .ok (.jc 0x2000, []) ∧
  decode [0xE4, 0x05, 0x00] = .ok (.cpo 0x0005, []) ∧ decode [0xD7] = .ok (.rst2, []) ∧ decode [0xF5] = .ok (.pushPsw, []) ∧
  decode [0xD3, 0x04] = .ok (.outPort 0x04, []) ∧ decode [0xDB, 0x03] = .ok (.inPort 0x03, []) ∧ decode [0xED, 0x00, 0x20] = .ok (.callED 0x2000, [])

/-- O5. The state after reset holds the values the spec gives. After reset the registers are 0, F is 0x02, SP, CYC, SR, SO and the latches
are 0, IE is off, Running is on, every byte reads 0, the screen is black, ACC is 0, nothing is paused, looping, printed or emitted; PC
is the initial PC of the mode. That the mode is ARCADE, the scheme NONE, the image empty and the schedule empty is the choice of the
model (log entries 1 and 7): the statement does not rest on the value of the mode. That no sound event stands in the sequence at
creation is the choice of the model too (log entry 31). (10_state.md R40, 70_reset_and_hazards.md R350, R352, R353) -/
def Obligations.ResetLeavesTheValuesOfTheSpec : Prop :=
  let s := State.reset
  (∀ r : Reg, s.reg r = 0x00) ∧ s.f = 0x02 ∧ s.sp = 0x0000 ∧ s.pc = Config.initialPc s.mode ∧ s.cyc = 0 ∧ s.ie = false ∧
  s.running = true ∧ s.sr = 0x0000 ∧ s.so = 0 ∧ (∀ k : Fin 8, s.ioPorts[k] = 0x00) ∧ (∀ x : Word, s.readByte x = 0x00) ∧
  s.startY = .top ∧ (∀ x y : Nat, s.fbAt x y = 0xFF000000) ∧ s.acc = 0 ∧ s.paused = false ∧ s.loops = [] ∧
  s.outStream = [] ∧ s.soundEvents = []

/-- O6. A step runs the instruction decoded at PC, and the scheduler around it. Where the bytes at PC decode to an instruction and the
machine is running, not shut down and not held by a pause in throttled mode, the step is exec of that instruction; from its next state
the scheduler goes on (afterStep), a fault or a refusal of it is the step's own. The bytes at PC are those at PC, PC + 1 and PC + 2.
(30_encoding.md R84, 60_exceptions.md R331, R332) -/
def Obligations.StepRunsTheDecodedInstruction : Prop :=
  ∀ (s : State) (i : Instr) (rest : List Byte),
    s.running = true → s.shutdown = false → (s.throttled && s.paused) = false →
    decode [s.readByte s.pc, s.readByte (s.pc + 1), s.readByte (s.pc + 2)] = .ok (i, rest) →
    i.wellFormed = true ∧
    step s = (match exec i s with
      | .next t => afterStep s t
      | .fault r => .fault r
      | .refused r => .refused r)

/-- O7. Bits 1, 3 and 5 of F read as 1, 0 and 0 in every state, and a write to F masks them. In every state F AND 0x28 is 0 and F AND 0x02
is 0x02; a byte written to F is stored as (v AND 0xD7) OR 0x02; reading F and writing it back changes nothing. (R27) -/
def Obligations.FIsAByteWithHardWiredBits : Prop :=
  (∀ s : State, s.f &&& 0x28 = 0x00 ∧ s.f &&& 0x02 = 0x02) ∧
  (∀ v : Byte, (Flags.unpack v).pack = (v &&& 0xD7) ||| 0x02) ∧ (∀ f : Flags, Flags.unpack f.pack = f)

/-- O8. Each condition is the predicate of the table on its flag. NZ, Z, NC, C, PO, PE, P and M hold when Z = 0, Z = 1, CY = 0, CY = 1, P =
0, P = 1, S = 0 and S = 1, and have the field values 0 to 7. (R29) -/
def Obligations.ConditionsReadTheirFlag : Prop :=
  (∀ f : Flags,
    (condHolds .nz f = true ↔ f.z = false) ∧ (condHolds .z f = true ↔ f.z = true) ∧
    (condHolds .nc f = true ↔ f.cy = false) ∧ (condHolds .c f = true ↔ f.cy = true) ∧
    (condHolds .po f = true ↔ f.p = false) ∧ (condHolds .pe f = true ↔ f.p = true) ∧
    (condHolds .p f = true ↔ f.s = false) ∧ (condHolds .m f = true ↔ f.s = true)) ∧
  (List.map condField [0, 1, 2, 3, 4, 5, 6, 7] = [.nz, .z, .nc, .c, .po, .pe, .p, .m])

/-- O9. MOV r1,r2 copies a register and changes nothing else. For every pair of registers MOV completes: r1 holds what r2 held, PC is one
further, CYC 5 more, and every other register, the flags, SP, every byte of memory, the ports and the rest are unchanged. The opcode is
01dddsss. It covers the 49 register forms. (R100) -/
def Obligations.MovBetweenRegisters : Prop :=
  ∀ (dst src : Reg) (s : State),
    encode (.movReg dst src) = [BitVec.ofNat 8 (0x40 + 8 * dst.number + src.number)] ∧
    ∃ t, exec (.movReg dst src) s = .next t ∧ t.reg dst = s.reg src ∧ OnlyRegs [dst] s t ∧ EndsAfter 1 5 s t

/-- O10. MOV r,M loads the byte at HL; MOV M,r stores to it. MOV r,M completes with r holding the byte at the old HL and memory unchanged;
MOV M,r completes with the byte at HL holding r, every other byte of memory and every register unchanged. 7 cycles each. It covers the
14 forms with M. (R101, R102) -/
def Obligations.MovWithMemory : Prop :=
  (∀ (dst : Reg) (s : State),
    encode (.movFromM dst) = [BitVec.ofNat 8 (0x46 + 8 * dst.number)] ∧
    ∃ t, exec (.movFromM dst) s = .next t ∧ t.reg dst = s.readByte s.hl ∧ OnlyRegs [dst] s t ∧ EndsAfter 1 7 s t) ∧
  (∀ (src : Reg) (s : State),
    encode (.movToM src) = [BitVec.ofNat 8 (0x70 + src.number)] ∧
    ∃ t, exec (.movToM src) s = .next t ∧ t.readByte s.hl = s.reg src ∧ OnlyStores [s.hl] s t ∧ EndsAfter 1 7 s t)

/-- O11. MVI loads an immediate byte into a register or stores it at HL. MVI r,n completes with r = n, 7 cycles; MVI M,n with the byte at HL
= n, 10 cycles, every other byte unchanged. PC is two further. (R103, R104) -/
def Obligations.MoveImmediate : Prop :=
  (∀ (dst : Reg) (n : Byte) (s : State),
    encode (.mviReg dst n) = [BitVec.ofNat 8 (0x06 + 8 * dst.number), n] ∧
    ∃ t, exec (.mviReg dst n) s = .next t ∧ t.reg dst = n ∧ OnlyRegs [dst] s t ∧ EndsAfter 2 7 s t) ∧
  (∀ (n : Byte) (s : State),
    encode (.mviM n) = [0x36, n] ∧
    ∃ t, exec (.mviM n) s = .next t ∧ t.readByte s.hl = n ∧ OnlyStores [s.hl] s t ∧ EndsAfter 2 10 s t)

/-- O12. LXI loads a pair with an immediate word. LXI completes with the pair holding the word, its high register the byte at pc+2 and its
low register the byte at pc+1; SP is written only by LXI SP; flags, memory and the other registers are unchanged; 10 cycles. (R105) -/
def Obligations.LoadPairImmediate : Prop :=
  ∀ (p : Pair) (nn : Word) (s : State),
    encode (.lxi p nn) = [BitVec.ofNat 8 (0x01 + 16 * p.number), nn.lo, nn.hi] ∧
    ∃ t, exec (.lxi p nn) s = .next t ∧ t.pair p = nn ∧
      (p.regs.map t.reg = if p = .sp then [] else [nn.hi, nn.lo]) ∧ (p ≠ .sp → t.sp = s.sp) ∧
      OnlyRegsAndSp p.regs s t ∧ EndsAfter 3 10 s t

/-- O13. LDA, STA, LDAX, STAX, LHLD and SHLD move A or HL from and to memory. LDA nn and LDAX rp complete with A holding the byte at nn or
at the pair; STA nn and STAX rp with that byte holding A (13 or 7 cycles); LHLD nn with L the byte at nn and H the byte at nn + 1, SHLD
nn with those bytes holding L and H, the addresses wrapping modulo 2^16 (16 cycles); nothing else changes but PC and CYC. (R106, R107,
R108, R109, R110, R111) -/
def Obligations.DirectAndIndirectLoadsAndStores : Prop :=
  (∀ (nn : Word) (s : State),
    (encode (.lda nn) = [0x3A, nn.lo, nn.hi] ∧
      ∃ t, exec (.lda nn) s = .next t ∧ t.a = s.readByte nn ∧ OnlyRegs [.a] s t ∧ EndsAfter 3 13 s t) ∧
    (encode (.sta nn) = [0x32, nn.lo, nn.hi] ∧
      ∃ t, exec (.sta nn) s = .next t ∧ t.readByte nn = s.a ∧ OnlyStores [nn] s t ∧ EndsAfter 3 13 s t)) ∧
  (∀ (p : IndexPair) (s : State),
    (encode (.ldax p) = [BitVec.ofNat 8 (0x0A + 16 * p.number)] ∧
      ∃ t, exec (.ldax p) s = .next t ∧ t.a = s.readByte (s.indexPair p) ∧ OnlyRegs [.a] s t ∧ EndsAfter 1 7 s t) ∧
    (encode (.stax p) = [BitVec.ofNat 8 (0x02 + 16 * p.number)] ∧
      ∃ t, exec (.stax p) s = .next t ∧ t.readByte (s.indexPair p) = s.a ∧ OnlyStores [s.indexPair p] s t ∧ EndsAfter 1 7 s t)) ∧
  (∀ (nn : Word) (s : State),
      (encode (.lhld nn) = [0x2A, nn.lo, nn.hi] ∧
        ∃ t, exec (.lhld nn) s = .next t ∧ t.l = s.readByte nn ∧ t.h = s.readByte (nn + 1) ∧ OnlyRegs [.h, .l] s t ∧ EndsAfter 3 16 s t) ∧
      (encode (.shld nn) = [0x22, nn.lo, nn.hi] ∧
        ∃ t, exec (.shld nn) s = .next t ∧ t.readByte nn = s.l ∧ t.readByte (nn + 1) = s.h ∧
          OnlyStores [nn, nn + 1] s t ∧ EndsAfter 3 16 s t))

/-- O14. XCHG exchanges HL and DE, and two of them restore the registers. XCHG completes with H, L, D, E holding what D, E, H, L held, 4
cycles, nothing else changed; a second XCHG gives every register its old value. (R112) -/
def Obligations.ExchangeHlWithDe : Prop :=
  ∀ s : State, encode .xchg = [0xEB] ∧
    ∃ t, exec .xchg s = .next t ∧ t.h = s.d ∧ t.l = s.e ∧ t.d = s.h ∧ t.e = s.l ∧ OnlyRegs [.d, .e, .h, .l] s t ∧ EndsAfter 1 4 s t ∧
      ∃ u, exec .xchg t = .next u ∧ ∀ r : Reg, u.reg r = s.reg r

/-- O15. ADD, ADC, ADI and ACI: the sum and every flag, in integer arithmetic. With a register, M or an immediate, the instruction
completes: A is the sum (with CY for ADC and ACI) modulo 256, S, Z and P are those of the result, AC is the carry out of bit 3 and CY
out of bit 7; only A and the flags change. (R131, R140, R141, R142, R143, R144, R145) -/
def Obligations.AddAndAddWithCarry : Prop :=
  ∀ (withCarry : Bool) (src : AluSource) (s : State),
    let op : AluOp := if withCarry then .adc else .add
    let v := src.value s
    let c : Nat := if withCarry && s.flags.cy then 1 else 0
    encode (src.instr op) = src.bytes op ∧
    ∃ t, exec (src.instr op) s = .next t ∧
      t.a.toNat = (s.a.toNat + v.toNat + c) % 256 ∧ SzpOf t.a t.flags ∧
      (t.flags.ac = true ↔ s.a.toNat % 16 + v.toNat % 16 + c > 15) ∧ (t.flags.cy = true ↔ s.a.toNat + v.toNat + c > 255) ∧
      OnlyRegsAndFlags [.a] s t ∧ EndsAfter src.length src.cycles s t

/-- O16. SUB, SBB, SUI and SBI: the difference and every flag, in integer arithmetic. A is the difference (less CY for SBB and SBI) modulo
256, S, Z and P those of the result, AC is 1 when there is no borrow from bit 4 (borrow-aware), which is the carry out of bit 3 of a +
NOT b + (1 - c), and CY is 1 exactly when a borrow occurs; only A and the flags change. (R146, R147, R148, R149, R150, R151) -/
def Obligations.SubtractAndSubtractWithBorrow : Prop :=
  ∀ (withBorrow : Bool) (src : AluSource) (s : State),
    let op : AluOp := if withBorrow then .sbb else .sub
    let v := src.value s
    let c : Nat := if withBorrow && s.flags.cy then 1 else 0
    encode (src.instr op) = src.bytes op ∧
    ∃ t, exec (src.instr op) s = .next t ∧
      (t.a.toNat : Int) = ((s.a.toNat : Int) - v.toNat - c) % 256 ∧ SzpOf t.a t.flags ∧
      (t.flags.ac = true ↔ s.a.toNat % 16 ≥ v.toNat % 16 + c) ∧ (t.flags.ac = true ↔ s.a.toNat % 16 + (~~~v).toNat % 16 + (1 - c) > 15) ∧
      (t.flags.cy = true ↔ s.a.toNat < v.toNat + c) ∧
      OnlyRegsAndFlags [.a] s t ∧ EndsAfter src.length src.cycles s t

/-- O17. CMP and CPI write the flags of SUB and leave A unchanged. CMP with a register or M and CPI complete with the flags of the
difference A - v: Z exactly when they are equal, CY exactly when A is less, unsigned; no register changes, A included. (R179, R180,
R181) -/
def Obligations.CompareDiscardsTheDifference : Prop :=
  ∀ (src : AluSource) (s : State),
    let v := src.value s
    encode (src.instr .cmp) = src.bytes .cmp ∧
    ∃ t, exec (src.instr .cmp) s = .next t ∧
      SzpOf (s.a - v) t.flags ∧ (t.flags.z = true ↔ s.a = v) ∧
      (t.flags.ac = true ↔ s.a.toNat % 16 ≥ v.toNat % 16) ∧ (t.flags.cy = true ↔ s.a.toNat < v.toNat) ∧
      OnlyRegsAndFlags [] s t ∧ EndsAfter src.length src.cycles s t

/-- O18. ANA and ANI: the conjunction, AC from bit 3 of a OR b, CY 0. A is A AND v; S, Z and P are those of the result; AC is bit 3 of A OR
v; CY is 0; only A and the flags change. (R133, R170, R171, R172) -/
def Obligations.AndIntoAccumulator : Prop :=
  ∀ (src : AluSource) (s : State),
    let v := src.value s
    encode (src.instr .ana) = src.bytes .ana ∧
    ∃ t, exec (src.instr .ana) s = .next t ∧
      t.a = s.a &&& v ∧ SzpOf t.a t.flags ∧ (t.flags.ac = true ↔ s.a[3] = true ∨ v[3] = true) ∧ t.flags.cy = false ∧
      OnlyRegsAndFlags [.a] s t ∧ EndsAfter src.length src.cycles s t

/-- O19. XRA, XRI, ORA and ORI: the result, AC and CY 0. A is A XOR v or A OR v; S, Z and P are those of the result; AC and CY are 0; only A
and the flags change. (R134, R173, R174, R175, R176, R177, R178) -/
def Obligations.XorAndOrIntoAccumulator : Prop :=
  ∀ (src : AluSource) (s : State),
    let v := src.value s
    (encode (src.instr .xra) = src.bytes .xra ∧
      ∃ t, exec (src.instr .xra) s = .next t ∧
        t.a = s.a ^^^ v ∧ SzpOf t.a t.flags ∧ t.flags.ac = false ∧ t.flags.cy = false ∧
        OnlyRegsAndFlags [.a] s t ∧ EndsAfter src.length src.cycles s t) ∧
    (encode (src.instr .ora) = src.bytes .ora ∧
      ∃ t, exec (src.instr .ora) s = .next t ∧
        t.a = s.a ||| v ∧ SzpOf t.a t.flags ∧ t.flags.ac = false ∧ t.flags.cy = false ∧
        OnlyRegsAndFlags [.a] s t ∧ EndsAfter src.length src.cycles s t)

/-- O20. INR adds one to a register or to M; CY untouched. The register, or the byte at HL, is one more modulo 256; S, Z and P are those of
the result; AC is set exactly when the low nibble was 15; CY and everything else are unchanged; 5 or 10 cycles. (R152, R153) -/
def Obligations.IncrementByte : Prop :=
  (∀ (r : Reg) (s : State),
    encode (.inrReg r) = [BitVec.ofNat 8 (0x04 + 8 * r.number)] ∧
    ∃ t, exec (.inrReg r) s = .next t ∧ (t.reg r).toNat = ((s.reg r).toNat + 1) % 256 ∧ SzpOf (t.reg r) t.flags ∧
      (t.flags.ac = true ↔ (s.reg r).toNat % 16 = 15) ∧ t.flags.cy = s.flags.cy ∧ OnlyRegsAndFlags [r] s t ∧ EndsAfter 1 5 s t) ∧
  (∀ s : State,
    encode .inrM = [0x34] ∧
    ∃ t, exec .inrM s = .next t ∧ (t.readByte s.hl).toNat = ((s.readByte s.hl).toNat + 1) % 256 ∧ SzpOf (t.readByte s.hl) t.flags ∧
      (t.flags.ac = true ↔ (s.readByte s.hl).toNat % 16 = 15) ∧ t.flags.cy = s.flags.cy ∧
      SameBut [] s t ∧ t.sp = s.sp ∧ SameMemBut [s.hl] s t ∧ EndsAfter 1 10 s t)

/-- O21. DCR takes one from a register or from M; AC from the value before; CY untouched. The register, or the byte at HL, is one less
modulo 256; S, Z and P are those of the result; AC is clear exactly when the low nibble before was 0; CY and everything else are
unchanged; 5 or 10 cycles. (R154, R155) -/
def Obligations.DecrementByte : Prop :=
  (∀ (r : Reg) (s : State),
    encode (.dcrReg r) = [BitVec.ofNat 8 (0x05 + 8 * r.number)] ∧
    ∃ t, exec (.dcrReg r) s = .next t ∧ (t.reg r).toNat = ((s.reg r).toNat + 255) % 256 ∧ SzpOf (t.reg r) t.flags ∧
      (t.flags.ac = true ↔ (s.reg r).toNat % 16 ≠ 0) ∧ t.flags.cy = s.flags.cy ∧ OnlyRegsAndFlags [r] s t ∧ EndsAfter 1 5 s t) ∧
  (∀ s : State,
    encode .dcrM = [0x35] ∧
    ∃ t, exec .dcrM s = .next t ∧ (t.readByte s.hl).toNat = ((s.readByte s.hl).toNat + 255) % 256 ∧ SzpOf (t.readByte s.hl) t.flags ∧
      (t.flags.ac = true ↔ (s.readByte s.hl).toNat % 16 ≠ 0) ∧ t.flags.cy = s.flags.cy ∧
      SameBut [] s t ∧ t.sp = s.sp ∧ SameMemBut [s.hl] s t ∧ EndsAfter 1 10 s t)

/-- O22. INX and DCX add or take one modulo 65536 and write no flag. The pair is one more or one less modulo 65536; no flag, no other
register and no byte of memory changes; 5 cycles. (R156, R157) -/
def Obligations.IncrementAndDecrementPair : Prop :=
  ∀ (p : Pair) (s : State),
    (encode (.inx p) = [BitVec.ofNat 8 (0x03 + 16 * p.number)] ∧
      ∃ t, exec (.inx p) s = .next t ∧ (t.pair p).toNat = ((s.pair p).toNat + 1) % 65536 ∧ (p ≠ .sp → t.sp = s.sp) ∧
        OnlyRegsAndSp p.regs s t ∧ EndsAfter 1 5 s t) ∧
    (encode (.dcx p) = [BitVec.ofNat 8 (0x0B + 16 * p.number)] ∧
      ∃ t, exec (.dcx p) s = .next t ∧ (t.pair p).toNat = ((s.pair p).toNat + 65535) % 65536 ∧ (p ≠ .sp → t.sp = s.sp) ∧
        OnlyRegsAndSp p.regs s t ∧ EndsAfter 1 5 s t)

/-- O23. DAD adds a pair to HL; CY is the only flag written. HL is HL + rp modulo 65536, CY is set exactly when the sum exceeds 0xFFFF, and
S, Z, AC, P, SP, memory and the other registers are unchanged; 10 cycles. (R158) -/
def Obligations.AddPairToHl : Prop :=
  ∀ (p : Pair) (s : State),
    encode (.dad p) = [BitVec.ofNat 8 (0x09 + 16 * p.number)] ∧
    ∃ t, exec (.dad p) s = .next t ∧ t.hl.toNat = (s.hl.toNat + (s.pair p).toNat) % 65536 ∧
      (t.flags.cy = true ↔ s.hl.toNat + (s.pair p).toNat > 0xFFFF) ∧ SameFlagsButCy s t ∧
      OnlyRegsAndFlags [.h, .l] s t ∧ EndsAfter 1 10 s t

/-- O24. DAA adds 0x06 and 0x60 as its two conditions say, and never clears CY. The low correction is 6 when the low nibble exceeds 9 or AC
is set; the high correction is 0x60 when the corrected high nibble, CY or A > 0x99 says so, which is just CY or A > 0x99; A is the sum
modulo 256, S, Z and P are those of it, AC the carry out of bit 3 of the correction, CY set exactly when the high correction was made.
(R159) -/
def Obligations.DecimalAdjust : Prop :=
  ∀ s : State,
    let a := s.a.toNat
    let low := if a % 16 > 9 ∨ s.flags.ac = true then 6 else 0
    let highCond := ((a + low) % 256) / 16 * 16 > 0x90 ∨ s.flags.cy = true ∨ a > 0x99
    let v := low + (if s.flags.cy = true ∨ a > 0x99 then 0x60 else 0)
    encode .daa = [0x27] ∧ (highCond ↔ s.flags.cy = true ∨ a > 0x99) ∧
    ∃ t, exec .daa s = .next t ∧ t.a.toNat = (a + v) % 256 ∧ SzpOf t.a t.flags ∧
      (t.flags.ac = true ↔ a % 16 + v % 16 > 15) ∧ (t.flags.cy = true ↔ highCond) ∧ (s.flags.cy = true → t.flags.cy = true) ∧
      OnlyRegsAndFlags [.a] s t ∧ EndsAfter 1 4 s t

/-- O25. RLC and RRC rotate A; RAL and RAR rotate CY and A as nine bits. RLC and RRC rotate A by one and copy the bit rotated out to CY; RAL
and RAR rotate the nine bits CY : A by one; the other flags and everything else are unchanged; 4 cycles. (R182, R183, R184, R185) -/
def Obligations.RotateAccumulator : Prop :=
  ∀ s : State,
    (encode .rlc = [0x07] ∧ ∃ t, exec .rlc s = .next t ∧ t.a = s.a.rotateLeft 1 ∧ t.flags.cy = s.a[7] ∧
      SameFlagsButCy s t ∧ OnlyRegsAndFlags [.a] s t ∧ EndsAfter 1 4 s t) ∧
    (encode .rrc = [0x0F] ∧ ∃ t, exec .rrc s = .next t ∧ t.a = s.a.rotateRight 1 ∧ t.flags.cy = s.a[0] ∧
      SameFlagsButCy s t ∧ OnlyRegsAndFlags [.a] s t ∧ EndsAfter 1 4 s t) ∧
    (encode .ral = [0x17] ∧ ∃ t, exec .ral s = .next t ∧
      BitVec.ofBool t.flags.cy ++ t.a = (BitVec.ofBool s.flags.cy ++ s.a).rotateLeft 1 ∧
      SameFlagsButCy s t ∧ OnlyRegsAndFlags [.a] s t ∧ EndsAfter 1 4 s t) ∧
    (encode .rar = [0x1F] ∧ ∃ t, exec .rar s = .next t ∧
      BitVec.ofBool t.flags.cy ++ t.a = (BitVec.ofBool s.flags.cy ++ s.a).rotateRight 1 ∧
      SameFlagsButCy s t ∧ OnlyRegsAndFlags [.a] s t ∧ EndsAfter 1 4 s t)

/-- O26. CMA complements A, CMC complements CY, STC sets CY; nothing else changes. CMA completes with every bit of A inverted and no flag
written; CMC with CY inverted; STC with CY = 1; the other flags and everything else are unchanged; 4 cycles. (R186, R187, R188) -/
def Obligations.ComplementAndCarryInstructions : Prop :=
  ∀ s : State,
    (encode .cma = [0x2F] ∧ ∃ t, exec .cma s = .next t ∧ (∀ k : Fin 8, t.a[k] = !s.a[k]) ∧ OnlyRegs [.a] s t ∧ EndsAfter 1 4 s t) ∧
    (encode .cmc = [0x3F] ∧ ∃ t, exec .cmc s = .next t ∧ t.flags.cy = !s.flags.cy ∧ SameFlagsButCy s t ∧
      OnlyRegsAndFlags [] s t ∧ EndsAfter 1 4 s t) ∧
    (encode .stc = [0x37] ∧ ∃ t, exec .stc s = .next t ∧ t.flags.cy = true ∧ SameFlagsButCy s t ∧
      OnlyRegsAndFlags [] s t ∧ EndsAfter 1 4 s t)

/-- O27. JMP, its duplicate 0xCB, PCHL and Jcc where its condition holds go to their target. JMP nn and JMP* nn complete with PC = nn, 10
cycles; PCHL with PC = HL, 5 cycles; Jcc, for every condition, with PC = nn where the condition holds and PC three further where it does
not, 10 cycles in both cases; nothing else changes. (R200, R201, R207, R208) -/
def Obligations.JumpsGoToTheirTarget : Prop :=
  (∀ (nn : Word) (s : State),
      (encode (.jmp nn) = [0xC3, nn.lo, nn.hi] ∧ ∃ t, exec (.jmp nn) s = .next t ∧ WentTo nn 10 s t ∧ OnlyRegs [] s t) ∧
      (encode (.jmpCB nn) = [0xCB, nn.lo, nn.hi] ∧ ∃ t, exec (.jmpCB nn) s = .next t ∧ WentTo nn 10 s t ∧ OnlyRegs [] s t) ∧
      (encode .pchl = [0xE9] ∧ ∃ t, exec .pchl s = .next t ∧ WentTo (Word.ofBytes s.h s.l) 5 s t ∧ OnlyRegs [] s t)) ∧
  (∀ (cc : Cond) (nn : Word) (s : State),
      encode (.jcc cc nn) = [BitVec.ofNat 8 (0xC2 + 8 * cc.number), nn.lo, nn.hi] ∧
      ∃ t, exec (.jcc cc nn) s = .next t ∧ OnlyRegs [] s t ∧
        (if condHolds cc s.flags then WentTo nn 10 s t else EndsAfter 3 10 s t))

/-- O28. CALL and its duplicates push pc + 3 and go to the target. CALL nn (0xCD, 0xDD, 0xED, 0xFD) completes: SP is 2 less, the bytes at
the new SP and above it hold the low and high byte of pc + 3, every other byte and every register is unchanged, PC = nn, 17 cycles.
(R202, R209) -/
def Obligations.CallPushesTheReturnAddress : Prop :=
  ∀ (nn : Word) (s : State), ∀ i ∈ [Instr.call nn, .callDD nn, .callED nn, .callFD nn],
    (encode i).tail = [nn.lo, nn.hi] ∧ [Instr.call nn, .callDD nn, .callED nn, .callFD nn].map Instr.opcode = [0xCD, 0xDD, 0xED, 0xFD] ∧
    ∃ t, exec i s = .next t ∧ Pushed (s.pc + 3) s t ∧ WentTo nn 17 s t

/-- O29. Ccc calls exactly when its condition holds: 17 cycles taken, 11 not taken. Where the condition holds Ccc completes as CALL; where
it does not, only PC (three further) and CYC (11 more) change, SP and memory included. (R203) -/
def Obligations.ConditionalCall : Prop :=
  ∀ (cc : Cond) (nn : Word) (s : State),
    encode (.ccc cc nn) = [BitVec.ofNat 8 (0xC4 + 8 * cc.number), nn.lo, nn.hi] ∧
    ∃ t, exec (.ccc cc nn) s = .next t ∧
      (if condHolds cc s.flags then Pushed (s.pc + 3) s t ∧ WentTo nn 17 s t else OnlyRegs [] s t ∧ EndsAfter 3 11 s t)

/-- O30. RET, RET* and Rcc where its condition holds pop PC. RET (0xC9, 0xD9) completes with PC the word at the top of the stack, SP 2 more,
10 cycles; Rcc does so in 11 cycles where its condition holds, and where it does not only PC (one further) and CYC (5 more) change;
flags, memory, the registers and IE are unchanged. (R204, R205, R210) -/
def Obligations.ReturnPopsThePc : Prop :=
  (∀ s : State, ∀ i ∈ [Instr.ret, .retD9],
      (encode .ret = [0xC9] ∧ encode .retD9 = [0xD9]) ∧
      ∃ t, exec i s = .next t ∧ WentTo (topOfStack s) 10 s t ∧ t.sp = s.sp + 2 ∧ OnlyRegsAndSp [] s t) ∧
  (∀ (cc : Cond) (s : State),
      encode (.rcc cc) = [BitVec.ofNat 8 (0xC0 + 8 * cc.number)] ∧
      ∃ t, exec (.rcc cc) s = .next t ∧
        (if condHolds cc s.flags then WentTo (topOfStack s) 11 s t ∧ t.sp = s.sp + 2 ∧ OnlyRegsAndSp [] s t
          else OnlyRegs [] s t ∧ EndsAfter 1 5 s t))

/-- O31. RST n pushes pc + 1 and goes to 8n; IE unchanged. For n in 0 to 7 RST n completes: pc + 1 is pushed, PC = 8n, 11 cycles, and IE and
everything else are unchanged. (R206) -/
def Obligations.RestartCallsItsVector : Prop :=
  ∀ (n : BitVec 3) (s : State),
    encode (.rst n) = [BitVec.ofNat 8 (0xC7 + 8 * n.toNat)] ∧
    ∃ t, exec (.rst n) s = .next t ∧ Pushed (s.pc + 1) s t ∧ WentTo (BitVec.ofNat 16 (8 * n.toNat)) 11 s t ∧ t.ie = s.ie

/-- O32. PUSH16 and POP16: byte places, wrap, and recovery. PUSH16 lowers SP by 2 and stores the low byte at the new SP and the high byte
above it, no other byte changing, whatever the address; POP16 reads the low byte at SP and the high byte at SP + 1 and raises SP by 2; a
push then a pop restores SP and returns the word. (R230) -/
def Obligations.PushThenPopRecoversTheWord : Prop :=
  ∀ (s : State) (v : Word),
    Pushed v s (s.push16 v) ∧ (s.push16 v).pc = s.pc ∧ (s.push16 v).cyc = s.cyc ∧
    s.top16 = topOfStack s ∧ s.drop16 = { s with sp := s.sp + 2 } ∧
    (s.push16 v).top16 = v ∧ ((s.push16 v).drop16).sp = s.sp

/-- O33. PUSH stores the pair, high register above low; PUSH PSW stores F at SP and A above. PUSH rp and PUSH PSW complete: SP is 2 less,
the bytes there hold the low and the high half (for PSW, F with its hard-wired bits, and A), no other byte and no register changes; 11
cycles. (R231, R232) -/
def Obligations.PushPairAndPsw : Prop :=
  (∀ (p : StackPair) (s : State),
    encode (.push p) = [BitVec.ofNat 8 (0xC5 + 16 * p.number)] ∧
    ∃ t, exec (.push p) s = .next t ∧ Pushed (Word.ofBytes (s.reg p.high) (s.reg p.low)) s t ∧ EndsAfter 1 11 s t) ∧
  (∀ s : State, encode .pushPsw = [0xF5] ∧
    ∃ t, exec .pushPsw s = .next t ∧ Pushed (Word.ofBytes s.a s.f) s t ∧ EndsAfter 1 11 s t)

/-- O34. POP loads the pair from the stack; POP PSW loads A and F through the mask. POP rp completes with the low register the byte at SP
and the high register the byte at SP + 1, SP 2 more; POP PSW with A the byte at SP + 1 and F the byte at SP masked with 0xD7 and its bit
1 set; memory and the other registers are unchanged; 10 cycles. (R233, R234) -/
def Obligations.PopPairAndPsw : Prop :=
  (∀ (p : StackPair) (s : State),
    encode (.pop p) = [BitVec.ofNat 8 (0xC1 + 16 * p.number)] ∧
    ∃ t, exec (.pop p) s = .next t ∧ t.reg p.low = s.readByte s.sp ∧ t.reg p.high = s.readByte (s.sp + 1) ∧ t.sp = s.sp + 2 ∧
      OnlyRegsAndSp [p.high, p.low] s t ∧ EndsAfter 1 10 s t) ∧
  (∀ s : State, encode .popPsw = [0xF1] ∧
    ∃ t, exec .popPsw s = .next t ∧ t.a = s.readByte (s.sp + 1) ∧ t.f = (s.readByte s.sp &&& 0xD7) ||| 0x02 ∧ t.sp = s.sp + 2 ∧
      SameBut [.a] s t ∧ SameMem s t ∧ EndsAfter 1 10 s t)

/-- O35. XTHL exchanges HL with the top of the stack; SPHL loads SP from HL. XTHL completes with L and H the bytes at SP and SP + 1 and
those bytes the old L and H, SP unchanged, 18 cycles; SPHL with SP = HL, 5 cycles; nothing else changes. (R235, R236) -/
def Obligations.ExchangeStackTopAndLoadSp : Prop :=
  ∀ s : State,
    (encode .xthl = [0xE3] ∧ ∃ t, exec .xthl s = .next t ∧ t.l = s.readByte s.sp ∧ t.h = s.readByte (s.sp + 1) ∧
      t.readByte s.sp = s.l ∧ t.readByte (s.sp + 1) = s.h ∧ t.sp = s.sp ∧ t.flags = s.flags ∧
      SameBut [.h, .l] s t ∧ SameMemBut [s.sp, s.sp + 1] s t ∧ EndsAfter 1 18 s t) ∧
    (encode .sphl = [0xF9] ∧ ∃ t, exec .sphl s = .next t ∧ t.sp = Word.ofBytes s.h s.l ∧ OnlyRegsAndSp [] s t ∧ EndsAfter 1 5 s t)

/-- O36. NOP and its duplicates only advance; EI sets and DI clears IE at once. NOP and NOP* complete with nothing changed but PC and CYC;
EI and DI complete with IE = 1 and IE = 0 and nothing else changed; 4 cycles. (R240, R241, R242, R243) -/
def Obligations.NoOperationAndInterruptLatch : Prop :=
  ∀ s : State,
    (encode .nop = [0x00]) ∧
    (∀ i ∈ [Instr.nop, .nop08, .nop10, .nop18, .nop20, .nop28, .nop30, .nop38],
      ∃ t, exec i s = .next t ∧ OnlyRegs [] s t ∧ EndsAfter 1 4 s t) ∧
    ([Instr.nop08, .nop10, .nop18, .nop20, .nop28, .nop30, .nop38].map encode = [[0x08], [0x10], [0x18], [0x20], [0x28], [0x30], [0x38]]) ∧
    (encode .ei = [0xFB] ∧ exec .ei s = .next { s with ie := true, pc := s.pc + 1, cyc := s.cyc + 4 }) ∧
    (encode .di = [0xF3] ∧ exec .di s = .next { s with ie := false, pc := s.pc + 1, cyc := s.cyc + 4 })

/-- O37. HLT completes with PC + 1, CYC + 7 and Running false, and no step follows. HLT completes: PC is one further, CYC 7 more, Running is
false, nothing else changes; the machine step that runs it takes no frame boundary, from its state no step is defined, and an interrupt
request does not resume it. That HLT stops the CPU is the own choice of the spec (D2), and so is that the frame boundary is left out
(R334, D33); that the step after it is refused is the choice of the model (log entry 5). (44_stack_control.md R244, 60_exceptions.md
R334, 92_eei_decisions.md D2, D33, notes/assumptions/5.md) -/
def Obligations.HaltEndsTheRun : Prop :=
  (∀ s : State, encode .hlt = [0x76] ∧
    exec .hlt s = .next { s with pc := s.pc + 1, cyc := s.cyc + 7, running := false }) ∧
  (∀ s : State, s.running = true → s.shutdown = false → (s.throttled && s.paused) = false → s.readByte s.pc = 0x76 →
    ∃ t, step s = .next t ∧ t.running = false ∧ t.pc = s.pc + 1 ∧ t.fb = s.fb ∧ t.mem = s.mem ∧ step t = .refused .runOver ∧
      ∀ n : BitVec 3, (requestInterrupt n t).running = false ∧ step (requestInterrupt n t) = .refused .runOver)

/-- O38. IN reads the latches, the shift window, or leaves A. IN p completes for every port: for 0 to 2 A is the latch, for 3 A is bits 15 -
SO down to 8 - SO of SR, for 4 to 255 A is unchanged; nothing else changes but PC and CYC; 10 cycles. (R261, R263, R264) -/
def Obligations.InputReadsThePort : Prop :=
  ∀ (p : Byte) (s : State), encode (.inPort p) = [0xDB, p] ∧
    ∃ t, exec (.inPort p) s = .next t ∧ OnlyRegs [.a] s t ∧ EndsAfter 2 10 s t ∧
      (p = 0 → t.a = s.ioPorts[0]) ∧ (p = 1 → t.a = s.ioPorts[1]) ∧ (p = 2 → t.a = s.ioPorts[2]) ∧
      (p = 3 → ∀ k : Nat, k < 8 → t.a.getLsbD k = s.sr.getLsbD (8 - s.so.toNat + k)) ∧ (4 ≤ p.toNat → t.a = s.a)

/-- O39. OUT 2 sets the shift offset; OUT 4 shifts a byte in. OUT 2 completes with SO = A modulo 8 and SR unchanged; OUT 4 with SR holding A
above the old high byte and SO unchanged; nothing else changes but PC and CYC. (R266, R267) -/
def Obligations.OutputToTheShiftRegister : Prop :=
  ∀ s : State,
    (∃ t, exec (.outPort 2) s = .next t ∧ t.so.toNat = s.a.toNat % 8 ∧
      t = { s with so := t.so, pc := s.pc + 2, cyc := s.cyc + 10 }) ∧
    (∃ t, exec (.outPort 4) s = .next t ∧ t.sr = Word.ofBytes s.a s.sr.hi ∧
      t = { s with sr := t.sr, pc := s.pc + 2, cyc := s.cyc + 10 })

/-- O40. OUT 3 and OUT 5 emit the events of their rising and falling bits and commit the latch. OUT 3 completes with StartLoop or StopLoop
of (3,0) on the edge of bit 0, then PlayOnce of bits 1 to 3 that rise, in ascending order; OUT 5 with PlayOnce of bits 0 to 4 that rise;
the latch of the port takes all of A; the loop (3,0) is active afterwards exactly when it rose, or was active and did not fall; nothing
else changes. The sound ids and the order of the events are the own choice of the spec (D14; log entry 21). (45_io_ports.md R268, R269,
R274, 10_state.md R38, 92_eei_decisions.md D14) -/
def Obligations.OutputToSoundBanks : Prop :=
  ∀ s : State,
    let p3 := s.ioPorts[3]
    let p5 := s.ioPorts[5]
    let shot3 := fun k : Fin 8 => if s.a[k] && !p3[k] then [SoundEvent.playOnce ⟨.port3, k⟩] else []
    let shot5 := fun k : Fin 8 => if s.a[k] && !p5[k] then [SoundEvent.playOnce ⟨.port5, k⟩] else []
    let start := if s.a[0] && !p3[0] then [SoundEvent.startLoop ⟨.port3, 0⟩] else []
    let stop := if p3[0] && !s.a[0] then [SoundEvent.stopLoop ⟨.port3, 0⟩] else []
    (∃ t, exec (.outPort 3) s = .next t ∧
      t = { s with
        ioPorts := s.ioPorts.set 3 s.a, soundEvents := s.soundEvents ++ (start ++ stop ++ shot3 1 ++ shot3 2 ++ shot3 3)
        loops := t.loops, pc := s.pc + 2, cyc := s.cyc + 10 } ∧
      (⟨.port3, 0⟩ ∈ t.loops ↔ (s.a[0] && !p3[0]) = true ∨ (⟨.port3, 0⟩ ∈ s.loops ∧ (p3[0] && !s.a[0]) = false)) ∧
      (∀ id : SoundId, id ≠ ⟨.port3, 0⟩ → (id ∈ t.loops ↔ id ∈ s.loops))) ∧
    (∃ t, exec (.outPort 5) s = .next t ∧
      t = { s with
        ioPorts := s.ioPorts.set 5 s.a, soundEvents := s.soundEvents ++ (shot5 0 ++ shot5 1 ++ shot5 2 ++ shot5 3 ++ shot5 4)
        pc := s.pc + 2, cyc := s.cyc + 10 })

/-- O41. OUT to a port without a handler changes nothing but PC and CYC. OUT 6 and OUT 7 to 255 in both modes, and OUT 0 and OUT 1 in ARCADE
mode, complete with only PC and CYC changed. (R270) -/
def Obligations.IgnoredOutputs : Prop :=
  ∀ (p : Byte) (s : State), (6 ≤ p.toNat ∨ (p.toNat ≤ 1 ∧ s.mode = .arcade)) →
    encode (.outPort p) = [0xD3, p] ∧ exec (.outPort p) s = .next { s with pc := s.pc + 2, cyc := s.cyc + 10 }

/-- O42. CPM OUT 0 stops the CPU; OUT 1 prints E, a $-string at DE, or nothing. In CPM mode OUT 0 completes with Running false; OUT 1 with C
= 2 appends E, with C = 9 the bytes from DE up to the first $, which is left out, the addresses wrapping, and with any other C nothing;
where no byte of memory is $ the step faults with DE. Nothing else changes but PC and CYC. (45_io_ports.md R271, R272, R273) -/
def Obligations.ConsoleStubOfCpm : Prop :=
  ∀ s : State, s.mode = .cpm →
    let de := Word.ofBytes s.d s.e
    let printed := fun bytes : List Byte => { s with outStream := s.outStream ++ bytes, pc := s.pc + 2, cyc := s.cyc + 10 }
    exec (.outPort 0) s = .next { s with running := false, pc := s.pc + 2, cyc := s.cyc + 10 } ∧
    (s.c = 2 → exec (.outPort 1) s = .next (printed [s.e])) ∧
    (s.c = 9 → ∀ n : Nat, n < 65536 → s.readByte (de + BitVec.ofNat 16 n) = 0x24 →
      (∀ k : Nat, k < n → s.readByte (de + BitVec.ofNat 16 k) ≠ 0x24) →
      exec (.outPort 1) s = .next (printed ((List.range n).map (fun k => s.readByte (de + BitVec.ofNat 16 k))))) ∧
    (s.c = 9 → (∀ x : Word, s.readByte x ≠ 0x24) → exec (.outPort 1) s = .fault (.cpmUnterminatedString de)) ∧
    (s.c ≠ 2 → s.c ≠ 9 → exec (.outPort 1) s = .next (printed []))

/-- O43. Every instruction answers a next state in every state, but for the unterminated console string. In every state every instruction
completes, except CPM OUT 1 with C = 9 and no $ anywhere in memory, which faults with DE. No instruction is refused, whatever the mode
or the state of IE: none is privileged and none traps. (60_exceptions.md R300, R301, R317, 45_io_ports.md R272) -/
def Obligations.EveryInstructionCompletesButOneCorner : Prop :=
  ∀ (i : Instr) (s : State),
    (∃ t, exec i s = .next t) ∨
    (i = .outPort 1 ∧ s.mode = .cpm ∧ s.c = 9 ∧ (∀ x : Word, s.readByte x ≠ 0x24) ∧
      exec i s = .fault (.cpmUnterminatedString (Word.ofBytes s.d s.e)))

/-- O44. Every instruction adds between 4 and 18 to CYC. Whatever the instruction and the state, a completed instruction has added a count
of at least 4 and at most 18 to CYC, modulo 2^64. (10_state.md R30, 70_reset_and_hazards.md R365) -/
def Obligations.CycGrowsByFourToEighteen : Prop :=
  ∀ (i : Instr) (s t : State), exec i s = .next t → ∃ n : Nat, 4 ≤ n ∧ n ≤ 18 ∧ t.cyc = s.cyc + BitVec.ofNat 64 n

/-- O45. No instruction outside the list of flag writers changes a flag. An instruction that is not an ALU operation, INR, DCR, DAD, a
rotate, DAA, STC, CMC or POP PSW leaves all five flags unchanged. (10_state.md R28) -/
def Obligations.OnlyFlagInstructionsWriteFlags : Prop :=
  ∀ (i : Instr) (s t : State), exec i s = .next t → opcodeWritesFlags i.opcode = false → t.flags = s.flags

/-- O46. Every instruction but a control transfer sets PC to pc + length. An instruction that is not a jump, call, return, restart or PCHL
leaves PC at the address of its opcode byte plus its length, modulo 2^16. (00_scope.md R12, 10_state.md R26, 30_encoding.md R80) -/
def Obligations.PcAdvancesUnlessTransferred : Prop :=
  ∀ (i : Instr) (s t : State), exec i s = .next t → opcodeTransfers i.opcode = false → t.pc = s.pc + BitVec.ofNat 16 i.length

/-- O47. IE, Running, the ports, the latches, the video and the scheduler have only their own writers. IE is changed by EI and DI only,
Running by HLT and OUT 0 only, the ports and outputs by OUT only, the latches 0, 1, 2, 4, 6 and 7 by no instruction, and the video,
scheduler, host state and parameters by no instruction. (10_state.md R31, R32, R33, R34, R35, R36, R37, 45_io_ports.md R260) -/
def Obligations.ControlStateHasItsOwnWriters : Prop :=
  ∀ (i : Instr) (s t : State), exec i s = .next t →
    (i ≠ .ei → i ≠ .di → t.ie = s.ie) ∧ (i ≠ .hlt → i ≠ .outPort 0 → t.running = s.running) ∧
    ((∀ p : Byte, i ≠ .outPort p) → SamePorts s t) ∧
    (∀ k : Fin 8, k ≠ 3 → k ≠ 5 → t.ioPorts[k] = s.ioPorts[k]) ∧ SameOutside s t

/-- O48. What an instruction does is independent of the video, the scheduler and the host. If two states differ only in the video, the
scheduler, the host state and the parameters but MODE, an instruction does the same in both: it answers the same kind of outcome, and
its next states differ only there. (10_state.md R36, R37, 20_memory.md R74) -/
def Obligations.InstructionsCannotSeeVideoOrScheduler : Prop :=
  ∀ (i : Instr) (s o : State),
    exec i (s.withOutside o) =
      (match exec i s with
        | .next t => .next (t.withOutside o)
        | .fault r => .fault r
        | .refused r => .refused r)

/-- O49. RequestInterrupt is discarded with IE = 0; with IE = 1 it pushes PC, clears IE and goes to 8n. With IE = 0 a request changes
nothing; with IE = 1 IE becomes 0, PC is pushed, PC is 8n, and no register, no flag, CYC and nothing else changes. (60_exceptions.md
R311, R312) -/
def Obligations.InterruptIsTakenOrDiscarded : Prop :=
  ∀ (n : BitVec 3) (s : State),
    (s.ie = false → requestInterrupt n s = s) ∧
    (s.ie = true →
      let t := requestInterrupt n s
      t.ie = false ∧ t.pc = BitVec.ofNat 16 (8 * n.toNat) ∧ t.cyc = s.cyc ∧
      t.sp = s.sp - 2 ∧ t.readByte (s.sp - 2) = s.pc.lo ∧ t.readByte (s.sp - 1) = s.pc.hi ∧ SameMemBut [s.sp - 2, s.sp - 1] s t ∧
      (∀ r : Reg, t.reg r = s.reg r) ∧ t.flags = s.flags ∧ t.running = s.running ∧ SamePorts s t ∧ SameOutside s t)

/-- O50. An accepted interrupt n is RST n but for the pushed PC, the cycles and IE. With IE = 1, RST n executed at the address one below PC
gives the state of the accepted interrupt n, but that RST has added 11 to CYC and has left IE set. (60_exceptions.md R316) -/
def Obligations.InterruptComparesWithRestart : Prop :=
  ∀ (n : BitVec 3) (s : State), s.ie = true →
    exec (.rst n) { s with pc := s.pc - 1 } = .next { requestInterrupt n s with ie := true, cyc := s.cyc + 11 }

/-- O51. Video.Step paints its half from VRAM, keeps the other, toggles startY and requests its interrupt. For every pixel of the half at
startY the framebuffer holds the colour of its VRAM bit (the LUT entry for 1, opaque black for 0); every pixel of the other half is
unchanged; startY toggles between 0 and 128; unless Paused, interrupt 1 is requested after the top half and 2 after the bottom; nothing
else changes. (60_exceptions.md R321, R322, R324, R325) -/
def Obligations.VideoStepScansOneHalf : Prop :=
  ∀ s : State,
    let t := videoStep s
    (∀ x y : Nat, x < 224 → y < 256 →
      t.fbAt x y =
        if s.startY.firstRow ≤ y ∧ y < s.startY.firstRow + 128 then
          (if (s.readByte (BitVec.ofNat 16 (0x2400 + x * 32 + (255 - y) / 8))).getLsbD (7 - y % 8) then s.lutAt x y else 0xFF000000)
        else s.fbAt x y) ∧
    t.startY.firstRow = 128 - s.startY.firstRow ∧ (s.startY.firstRow = 0 ∨ s.startY.firstRow = 128) ∧
    t = { (if s.paused then s else requestInterrupt (if s.startY.firstRow = 0 then 1 else 2) s) with fb := t.fb, startY := t.startY }

/-- O52. The LUT of each colour scheme: white, the first covering rectangle, or the PROM colour of the tile. For every pixel the LUT of NONE
is white (D17); of OVERLAY the colour of the first rectangle that covers it under half-open bounds (D18), white where none does (D17);
of PROM, for a PROM of 1024 bytes, the colour whose red, green and blue are 0xFF or 0 as bits 0, 2 and 1 of entry 128 + 32(x div 8) +
(255 - y) div 8 say, an entry between 128 and 1023. Every entry has alpha 0xFF (R326). That a rectangle colour given with another alpha
is written with alpha 0xFF, its red, green and blue kept, is the choice of the model (log entry 20). (60_exceptions.md R320, R323, R326,
00_scope.md R6, 92_eei_decisions.md D17, D18) -/
def Obligations.LutHoldsTheColoursOfTheScheme : Prop :=
  ∀ x y : Nat, x < 224 → y < 256 →
    let idx := 128 + 32 * (x / 8) + (255 - y) / 8
    let lutAtOf := fun scheme : ColourScheme => cellsRead Config.white (lutOf scheme) (pixelIndex x y)
    (∀ scheme : ColourScheme, (lutAtOf scheme).extractLsb' 24 8 = 0xFF) ∧
    lutAtOf .none = 0xFFFFFFFF ∧
    (∀ rects : List Rect,
      let first := rects.find? (fun r =>
        ((r.xMin = 0 ∧ r.xMax = 0) ∨ (r.xMin ≤ x ∧ x < r.xMax)) ∧ ((r.yMin = 0 ∧ r.yMax = 0) ∨ (r.yMin ≤ y ∧ y < r.yMax)))
      (first = none → lutAtOf (.overlay rects) = 0xFFFFFFFF) ∧
      (∀ r : Rect, first = some r →
        (lutAtOf (.overlay rects)).extractLsb' 0 24 = r.colour.extractLsb' 0 24 ∧
        (r.colour.extractLsb' 24 8 = 0xFF → lutAtOf (.overlay rects) = r.colour))) ∧
    (128 ≤ idx ∧ idx ≤ 1023 ∧ idx = (((x * 32 + (255 - y) / 8) / 256) * 32 + (x * 32 + (255 - y) / 8) % 32) + 0x80) ∧
    (∀ bytes : List Byte, bytes.length = 1024 →
      ∃ v : Byte, bytes[idx]? = some v ∧
        let w := lutAtOf (.prom bytes)
        w.extractLsb' 16 8 = (if v[0] then 0xFF else 0x00) ∧
        w.extractLsb' 8 8 = (if v[2] then 0xFF else 0x00) ∧ w.extractLsb' 0 8 = (if v[1] then 0xFF else 0x00))

/-- O53. A frame ends at the first step that brings ACC to 33,333, at most 33,350, and only there does the video run. From a live state with
ACC below 33,333 and a CPU step that leaves the CPU running: the step answers the CPU step's state with ACC larger by the count where
ACC stays below 33,333; otherwise ACC has reached 33,333 to 33,350, and the step is Video.Step on that state with ACC 0 and then the
host events of the boundary. (60_exceptions.md R313, R331, R332, R333) -/
def Obligations.FrameEndsAtTheBudget : Prop :=
  ∀ (s t : State), s.live = true → s.acc < 33333 → cpuStep s = .next t → t.running = true →
    ∃ n : Nat, 4 ≤ n ∧ n ≤ 18 ∧ t.cyc = s.cyc + BitVec.ofNat 64 n ∧
      (s.acc + n < 33333 → step s = .next { t with acc := s.acc + n }) ∧
      (33333 ≤ s.acc + n → s.acc + n ≤ 33350 ∧ step s = hostTurn (videoStep { t with acc := 0 }))

/-- O54. A stop or a shutdown ends the run: no video, no request and no further step. A step whose instruction clears Running answers that
instruction's state with ACC counted and no frame boundary; from a state that is not running or is shut down every step is refused as
over; a shutdown event sets only the shutdown mark and nothing behind it in its batch happens. Three points are the choice of the model
and no rule of the spec: the refusal of a step after the end (log entry 5), the shutdown mark (log entry 6), and that nothing behind a
shutdown in its batch happens (log entry 24). (60_exceptions.md R334, 92_eei_decisions.md D22, D33, D35, notes/assumptions/5.md,
notes/assumptions/6.md, notes/assumptions/24.md) -/
def Obligations.EndOfTheRun : Prop :=
  (∀ s t : State, s.live = true → cpuStep s = .next t → t.running = false →
    step s = .next { t with acc := s.acc + (t.cyc - s.cyc).toNat }) ∧
  (∀ s : State, (s.running = false ∨ s.shutdown = true) → step s = .refused .runOver) ∧
  (∀ (s : State) (rest : List HostEvent), applyEvents (.shutdown :: rest) s = .next { s with shutdown := true })

/-- O55. Throttled and paused, a step scans and takes the host events only; unthrottled, Paused does not stop the CPU. In throttled mode
with Paused set a step is Video.Step and then the host events of the boundary, whatever the host schedule: Video.Step paints the half at
startY from VRAM, keeps the other half, toggles startY and changes nothing else, with no request; with no batch to come that is the next
state, and a batch of one pause event ends the pause. In unthrottled mode a step runs the CPU step, whether Paused is set or not. That
one tick is one step is the reading of the model (log entry 3), and so is that ACC does not matter to it (log entry 16).
(60_exceptions.md R321, R322, R324, R325, R331, R332, R341, 10_state.md R37, 92_eei_decisions.md D21, D31) -/
def Obligations.PausedTickRunsNoCpuStep : Prop :=
  (∀ s : State, s.running = true → s.shutdown = false → s.throttled = true → s.paused = true →
    ∃ t, step s = hostTurn t ∧ t = videoStep s ∧ t = { s with fb := t.fb, startY := s.startY.other } ∧
      (∀ x y : Nat, x < 224 → y < 256 →
        t.fbAt x y =
          if s.startY.firstRow ≤ y ∧ y < s.startY.firstRow + 128 then
            (if (s.readByte (BitVec.ofNat 16 (0x2400 + x * 32 + (255 - y) / 8))).getLsbD (7 - y % 8) then s.lutAt x y else 0xFF000000)
          else s.fbAt x y) ∧
      (s.schedule = [] → step s = .next t) ∧
      (∀ rest : List (List HostEvent), s.schedule = [.togglePause] :: rest →
        step s = .next { t with paused := false, schedule := rest })) ∧
  (∀ s t : State, s.running = true → s.shutdown = false → s.throttled = false → cpuStep s = .next t → step s = afterStep s t)

/-- O56. Every step keeps the invariant: canonical memory and screen, alpha 0xFF, the LUT of the scheme, ACC below the budget. From every
state that meets the invariant, reachable or not, a step that answers a next state answers one that meets it, host events included:
memory, saved memories and framebuffer in canonical form, every word of the framebuffer with alpha 0xFF, the LUT that of the colour
scheme, ACC below 33,333 (or at most 33,350 where the CPU has stopped), no sound loop listed twice. (20_memory.md R62, 60_exceptions.md
R320, R326, R330, R333, 10_state.md R38) -/
def Obligations.EveryStepKeepsTheInvariant : Prop :=
  ∀ s t : State, s.Inv → step s = .next t → t.Inv

/-- O57. The state after reset meets the invariant. The invariant that every step keeps holds of the state after reset. (10_state.md R40) -/
def Obligations.ResetMeetsTheInvariant : Prop :=
  State.reset.Inv

/-- O58. A launch loads the image and the patch and starts at the initial PC, or stops with its CONFIG_ERROR. A launch succeeds exactly when
its image loads and its scheme passes the load check. A launched machine has the Init values, the video, scheduler and parameters of
R353, and in CPM mode the five patch bytes; it meets the invariant where the snapshots given at launch have memories in canonical form
(log entry 30). But for the patch, memory reads as the flat image from its base, or, for a descriptor, as the last of its parts in
descriptor order that has a byte for the address, and 0x00 elsewhere, whatever the scheme. A missing image or part, a bad member, a part
of another size than declared and an image or part past 0xFFFF stop the launch with that cause, the first such part deciding; overlays
that share a pixel and a PROM that is not 1024 bytes stop it where the image loads. That the first cause in this order is the one named
is the choice of the model (log entry 25), and so are the cause of the PROM size (log entry 19) and that the sequence of sound events
starts empty (log entry 31). (70_reset_and_hazards.md R350, R353, R355, R356, 60_exceptions.md R301, R320, 10_state.md R40, 00_scope.md
R6, 92_eei_decisions.md D7, D18, D25, D38) -/
def Obligations.LaunchPreparesTheRun : Prop :=
  (∀ p : LaunchParams, (∃ s, launch p = .ok s) ↔ ImageAccepted p.mode p.image ∧ SchemeAccepted p.scheme) ∧
  (∀ (p : LaunchParams) (s : State), launch p = .ok s →
    ((∀ snap ∈ p.saves, Memory.wf snap.mem = true) → s.Inv) ∧
    (∀ r : Reg, s.reg r = 0x00) ∧ s.f = 0x02 ∧ s.sp = 0x0000 ∧ s.pc = Config.initialPc p.mode ∧ s.cyc = 0 ∧ s.ie = false ∧
    s.running = true ∧ s.sr = 0x0000 ∧ s.so = 0 ∧ (∀ k : Fin 8, s.ioPorts[k] = 0x00) ∧
    s.startY = .top ∧ (∀ x y : Nat, s.fbAt x y = 0xFF000000) ∧ s.lut = lutOf p.scheme ∧ s.acc = 0 ∧ s.paused = false ∧ s.loops = [] ∧
    s.outStream = [] ∧ s.soundEvents = [] ∧ s.shutdown = false ∧ s.mode = p.mode ∧ s.scheme = p.scheme ∧ s.throttled = p.throttled ∧
    s.schedule = p.schedule ∧ s.saves = p.saves ∧
    (p.mode = .cpm → patchAddrs.map s.readByte = [0xD3, 0x00, 0xD3, 0x01, 0xC9])) ∧
  (∀ (p : LaunchParams) (bytes : List Byte) (s : State), p.image = .flat (.data bytes) → launch p = .ok s →
    let base := (Config.initialPc p.mode).toNat
    (∀ k : Nat, (h : k < bytes.length) → s.readByte (BitVec.ofNat 16 (base + k)) = bytes[k]) ∧
    (∀ x : Word, (x.toNat < base ∨ base + bytes.length ≤ x.toNat) → (p.mode = .arcade ∨ x ∉ patchAddrs) → s.readByte x = 0x00)) ∧
  (∀ (p : LaunchParams) (parts : List RomPart) (s : State), p.image = .parts parts → launch p = .ok s →
    ∀ x : Word, (p.mode = .arcade ∨ x ∉ patchAddrs) → s.readByte x = partsByte parts x.toNat) ∧
  (∀ p : LaunchParams,
    (p.image = .flat .missing → launch p = .error .missingRom) ∧
    (p.image = .flat .bad → launch p = .error .badZipMember) ∧
    (∀ bytes : List Byte, p.image = .flat (.data bytes) → 65536 < (Config.initialPc p.mode).toNat + bytes.length →
      launch p = .error .imagePastTop) ∧
    (∀ (first rest : List RomPart) (part : RomPart) (e : ConfigError), p.image = .parts (first ++ part :: rest) →
      (∀ q ∈ first, PartAccepted q) → PartRejected part e → launch p = .error e) ∧
    (ImageAccepted p.mode p.image → ¬SchemeAccepted p.scheme →
      (∀ rects : List Rect, p.scheme = .overlay rects → launch p = .error .overlappingOverlays) ∧
      (∀ bytes : List Byte, p.scheme = .prom bytes → launch p = .error .promSize)))

/-- O59. LoadState of a SaveState restores exactly the fields of R41. Loading into any state what was saved from another gives the saved
registers, flags, PC, SP, CYC, SO, SR, IE, latches and memory, and keeps every other field of the state loaded into; a save event
followed by a load of the latest save changes only the list of saves. (10_state.md R41, 60_exceptions.md R343) -/
def Obligations.SaveThenLoadRestoresExactlyTheSavedFields : Prop :=
  (∀ s u : State,
    let t := loadState (saveState s) u
    (∀ r : Reg, t.reg r = s.reg r) ∧ t.flags = s.flags ∧ t.pc = s.pc ∧ t.sp = s.sp ∧ t.cyc = s.cyc ∧ t.so = s.so ∧ t.sr = s.sr ∧
    t.ie = s.ie ∧ t.ioPorts = s.ioPorts ∧ t.mem = s.mem ∧
    t.running = u.running ∧ t.outStream = u.outStream ∧ t.soundEvents = u.soundEvents ∧ t.loops = u.loops ∧ SameOutside u t) ∧
  (∀ s : State, s.shutdown = false → applyEvents [.save, .load 0] s = .next { s with saves := saveState s :: s.saves })

/-- O60. Host events: inputs, pause, reset and load, in the order sent, one batch of HOST_SCHEDULE a boundary. A boundary takes the first
batch of HOST_SCHEDULE and leaves the rest, and does nothing where none is left; the events of a batch happen in the order sent, each on
the state the one before it left, and a fault or a refusal ends the batch. SendInput in range sets or clears just its bit of its latch
and changes nothing else; out of range it is refused; the host's reset gives the registers their Init values, keeps memory, startY, FB,
Paused and the loops, and recomputes the LUT; the pause event negates Paused and changes nothing else; a load takes the snapshot of its
age; a load with no such save is refused and a corrupt one faults. The finite list of batches is the form the model chose (log entry 7),
as are the list of snapshots (log entries 8 and 30), the loadCorrupt event (log entry 9) and that such a refusal is one of the whole
step (log entry 23). (60_exceptions.md R301, R314, R334, R340, R341, R343, 70_reset_and_hazards.md R351, 00_scope.md R8,
92_eei_decisions.md D21, D24, D27, D36) -/
def Obligations.HostInputsResetAndRefusals : Prop :=
  (∀ s : State, (s.schedule = [] → hostTurn s = .next s) ∧
    (∀ (batch : List HostEvent) (rest : List (List HostEvent)), s.schedule = batch :: rest →
      hostTurn s = applyEvents batch { s with schedule := rest })) ∧
  (∀ (first later : List HostEvent) (s : State),
    (∀ ev : HostEvent, applyEvents [ev] s = applyEvent ev s) ∧
    (∀ t : State, applyEvents first s = .next t → t.shutdown = false → applyEvents (first ++ later) s = applyEvents later t) ∧
    (∀ r : Fault, applyEvents first s = .fault r → applyEvents (first ++ later) s = .fault r) ∧
    (∀ r : Refusal, applyEvents first s = .refused r → applyEvents (first ++ later) s = .refused r)) ∧
  (∀ s : State, applyEvent .togglePause s = .next { s with paused := !s.paused }) ∧
  (∀ (port bit : Nat) (value : Bool) (s : State), (h : port < 8 ∧ bit < 8) →
    ∃ t, applyEvent (.sendInput port bit value) s = .next t ∧ t = { s with ioPorts := t.ioPorts } ∧
      (∀ q : Nat, (hq : q < 8) → q ≠ port → t.ioPorts[q] = s.ioPorts[q]) ∧
      (∀ k : Nat, k < 8 → (t.ioPorts[port]'h.1).getLsbD k = if k = bit then value else (s.ioPorts[port]'h.1).getLsbD k)) ∧
  (∀ (port bit : Nat) (value : Bool) (s : State), ¬(port < 8 ∧ bit < 8) →
    applyEvent (.sendInput port bit value) s = .refused (.sendInputOutOfRange port bit)) ∧
  (∀ s : State, ∃ t, applyEvent .reset s = .next t ∧
    (∀ r : Reg, t.reg r = 0) ∧ t.f = 0x02 ∧ t.sp = 0 ∧ t.pc = Config.initialPc s.mode ∧ t.cyc = 0 ∧ t.ie = false ∧ t.sr = 0 ∧ t.so = 0 ∧
    (∀ k : Fin 8, t.ioPorts[k] = 0) ∧ t.running = true ∧ t.lut = lutOf s.scheme ∧
    t.mem = s.mem ∧ t.startY = s.startY ∧ t.fb = s.fb ∧ t.paused = s.paused ∧ t.loops = s.loops) ∧
  (∀ (age : Nat) (snap : Snapshot) (s : State), s.saves[age]? = some snap → applyEvent (.load age) s = .next (loadState snap s)) ∧
  (∀ (age : Nat) (s : State), s.saves.length ≤ age → applyEvent (.load age) s = .refused .loadWithoutSave) ∧
  (∀ s : State, applyEvent .loadCorrupt s = .fault .corruptSaveState)
end

