-- ==== Sys2Proof/Laws/Flags.lean ====
section
/-! SUPPORT. What the flag generators compute (spec/41_arithmetic.md R130 to R135), in integer arithmetic. -/

namespace Sys2Proof.Machine

theorem lowNibble_eq_mod (v : Byte) : lowNibble v = v.toNat % 16 := by
  have h : ∀ v : Byte, lowNibble v = v.toNat % 16 := by decide
  exact h v

theorem popcount_eq_oneBits (v : Byte) : popcount v = oneBits v := by
  have h : ∀ v : Byte, popcount v = oneBits v := by decide
  exact h v

theorem bit_le_one (v : Bool) : bit v ≤ 1 := by cases v <;> decide

theorem szp_is_SzpOf (r : Byte) (ac cy : Bool) : SzpOf r (szp r ac cy) :=
  ⟨rfl, by simp [szp], by simp [szp, popcount_eq_oneBits]⟩

@[simp] theorem szp_ac (r : Byte) (ac cy : Bool) : (szp r ac cy).ac = ac := rfl
@[simp] theorem szp_cy (r : Byte) (ac cy : Bool) : (szp r ac cy).cy = cy := rfl

variable (a b v : Byte) (c : Bool) (f : Flags)

theorem addF_result : (addF a b c).1.toNat = (a.toNat + b.toNat + bit c) % 256 := by
  simp [addF]

theorem addF_szp : SzpOf (addF a b c).1 (addF a b c).2 := szp_is_SzpOf _ _ _

theorem addF_ac : (addF a b c).2.ac = true ↔ a.toNat % 16 + b.toNat % 16 + bit c > 15 := by
  simp only [addF, szp_ac, lowNibble_eq_mod, decide_eq_true_eq]

theorem addF_cy : (addF a b c).2.cy = true ↔ a.toNat + b.toNat + bit c > 255 := by
  simp only [addF, szp_cy, decide_eq_true_eq]

theorem subF_result : ((subF a b c).1.toNat : Int) = ((a.toNat : Int) - b.toNat - bit c) % 256 := by
  have ha := a.isLt
  have hb := b.isLt
  have hc := bit_le_one c
  simp only [subF, BitVec.toNat_sub, BitVec.toNat_ofNat]
  omega

theorem subF_szp : SzpOf (subF a b c).1 (subF a b c).2 := szp_is_SzpOf _ _ _

theorem subF_ac : (subF a b c).2.ac = true ↔ a.toNat % 16 ≥ b.toNat % 16 + bit c := by
  simp only [subF, szp_ac, lowNibble_eq_mod, decide_eq_true_eq]

theorem subF_cy : (subF a b c).2.cy = true ↔ a.toNat < b.toNat + bit c := by
  simp only [subF, szp_cy, decide_eq_true_eq]

theorem andF_szp : SzpOf (andF a b).1 (andF a b).2 := szp_is_SzpOf _ _ _

theorem andF_ac : (andF a b).2.ac = true ↔ a[3] = true ∨ b[3] = true := by
  have h : ∀ w : Byte, w &&& 0x08 ≠ 0 ↔ w[3] = true := by decide
  simp only [andF, szp_ac, decide_eq_true_eq, h]
  simp

theorem orF_szp : SzpOf (orF a).1 (orF a).2 := szp_is_SzpOf _ _ _

theorem incF_szp : SzpOf (incF v f).1 (incF v f).2 := szp_is_SzpOf _ _ _

theorem incF_result : (incF v f).1.toNat = (v.toNat + 1) % 256 := by
  simp [incF]

theorem incF_ac : (incF v f).2.ac = true ↔ v.toNat % 16 = 15 := by
  simp only [incF, szp_ac, lowNibble_eq_mod, decide_eq_true_eq]
  omega

theorem decF_szp : SzpOf (decF v f).1 (decF v f).2 := szp_is_SzpOf _ _ _

theorem decF_result : (decF v f).1.toNat = (v.toNat + 255) % 256 := by
  have h : (1 : Byte).toNat = 1 := rfl
  simp only [decF, BitVec.toNat_sub, h]
  omega

theorem decF_ac : (decF v f).2.ac = true ↔ v.toNat % 16 ≠ 0 := by
  simp only [decF, szp_ac, lowNibble_eq_mod, decide_eq_true_eq]
  omega

end Sys2Proof.Machine
end

