-- ==== Sys2Proof/Laws/Forms.lean ====
section
/-! SUPPORT. The instructions by their formats (spec/30_encoding.md R81): every instruction is an instance of one of 63 forms, and what
exec does with each form, so that a claim about all instructions is a claim about each form. -/

namespace Sys2Proof

open Sys2Proof.Machine

/-- A property that every form has is one that every instruction has. -/
theorem Instr.byForm (motive : Instr → Prop)
    (movReg : ∀ (dst src : Reg), motive (Instr.movReg dst src))
    (movFromM : ∀ (dst : Reg), motive (Instr.movFromM dst))
    (movToM : ∀ (src : Reg), motive (Instr.movToM src))
    (mviReg : ∀ (dst : Reg) (n : Byte), motive (Instr.mviReg dst n))
    (mviM : ∀ (n : Byte), motive (Instr.mviM n))
    (inrReg : ∀ (dst : Reg), motive (Instr.inrReg dst))
    (inrM : motive (Instr.inrM))
    (dcrReg : ∀ (dst : Reg), motive (Instr.dcrReg dst))
    (dcrM : motive (Instr.dcrM))
    (aluReg : ∀ (op : AluOp) (src : Reg), motive (Instr.aluReg op src))
    (aluM : ∀ (op : AluOp), motive (Instr.aluM op))
    (aluImm : ∀ (op : AluOp) (n : Byte), motive (Instr.aluImm op n))
    (lxi : ∀ (p : Pair) (nn : Word), motive (Instr.lxi p nn))
    (dad : ∀ (p : Pair), motive (Instr.dad p))
    (inx : ∀ (p : Pair), motive (Instr.inx p))
    (dcx : ∀ (p : Pair), motive (Instr.dcx p))
    (ldax : ∀ (p : IndexPair), motive (Instr.ldax p))
    (stax : ∀ (p : IndexPair), motive (Instr.stax p))
    (push : ∀ (p : StackPair), motive (Instr.push p))
    (pushPsw : motive (Instr.pushPsw))
    (pop : ∀ (p : StackPair), motive (Instr.pop p))
    (popPsw : motive (Instr.popPsw))
    (jcc : ∀ (cc : Cond) (nn : Word), motive (Instr.jcc cc nn))
    (ccc : ∀ (cc : Cond) (nn : Word), motive (Instr.ccc cc nn))
    (rcc : ∀ (cc : Cond), motive (Instr.rcc cc))
    (rst : ∀ (n : BitVec 3), motive (Instr.rst n))
    (nop : motive (Instr.nop))
    (rlc : motive (Instr.rlc))
    (nop08 : motive (Instr.nop08))
    (rrc : motive (Instr.rrc))
    (nop10 : motive (Instr.nop10))
    (ral : motive (Instr.ral))
    (nop18 : motive (Instr.nop18))
    (rar : motive (Instr.rar))
    (nop20 : motive (Instr.nop20))
    (shld : ∀ (nn : Word), motive (Instr.shld nn))
    (daa : motive (Instr.daa))
    (nop28 : motive (Instr.nop28))
    (lhld : ∀ (nn : Word), motive (Instr.lhld nn))
    (cma : motive (Instr.cma))
    (nop30 : motive (Instr.nop30))
    (sta : ∀ (nn : Word), motive (Instr.sta nn))
    (stc : motive (Instr.stc))
    (nop38 : motive (Instr.nop38))
    (lda : ∀ (nn : Word), motive (Instr.lda nn))
    (cmc : motive (Instr.cmc))
    (hlt : motive (Instr.hlt))
    (jmp : ∀ (nn : Word), motive (Instr.jmp nn))
    (ret : motive (Instr.ret))
    (jmpCB : ∀ (nn : Word), motive (Instr.jmpCB nn))
    (call : ∀ (nn : Word), motive (Instr.call nn))
    (outPort : ∀ (n : Byte), motive (Instr.outPort n))
    (retD9 : motive (Instr.retD9))
    (inPort : ∀ (n : Byte), motive (Instr.inPort n))
    (callDD : ∀ (nn : Word), motive (Instr.callDD nn))
    (xthl : motive (Instr.xthl))
    (pchl : motive (Instr.pchl))
    (xchg : motive (Instr.xchg))
    (callED : ∀ (nn : Word), motive (Instr.callED nn))
    (di : motive (Instr.di))
    (sphl : motive (Instr.sphl))
    (ei : motive (Instr.ei))
    (callFD : ∀ (nn : Word), motive (Instr.callFD nn))
    (i : Instr) : motive i := by
  cases i with
  | lxiB nn => exact lxi .bc nn
  | mviB n => exact mviReg .b n
  | mviC n => exact mviReg .c n
  | lxiD nn => exact lxi .de nn
  | mviD n => exact mviReg .d n
  | mviE n => exact mviReg .e n
  | lxiH nn => exact lxi .hl nn
  | shld nn => exact shld nn
  | mviH n => exact mviReg .h n
  | lhld nn => exact lhld nn
  | mviL n => exact mviReg .l n
  | lxiSp nn => exact lxi .sp nn
  | sta nn => exact sta nn
  | mviM n => exact mviM n
  | lda nn => exact lda nn
  | mviA n => exact mviReg .a n
  | jnz nn => exact jcc .nz nn
  | jmp nn => exact jmp nn
  | cnz nn => exact ccc .nz nn
  | adi n => exact aluImm .add n
  | jz nn => exact jcc .z nn
  | jmpCB nn => exact jmpCB nn
  | cz nn => exact ccc .z nn
  | call nn => exact call nn
  | aci n => exact aluImm .adc n
  | jnc nn => exact jcc .nc nn
  | outPort n => exact outPort n
  | cnc nn => exact ccc .nc nn
  | sui n => exact aluImm .sub n
  | jc nn => exact jcc .c nn
  | inPort n => exact inPort n
  | cc nn => exact ccc .c nn
  | callDD nn => exact callDD nn
  | sbi n => exact aluImm .sbb n
  | jpo nn => exact jcc .po nn
  | cpo nn => exact ccc .po nn
  | ani n => exact aluImm .ana n
  | jpe nn => exact jcc .pe nn
  | cpe nn => exact ccc .pe nn
  | callED nn => exact callED nn
  | xri n => exact aluImm .xra n
  | jp nn => exact jcc .p nn
  | cp nn => exact ccc .p nn
  | ori n => exact aluImm .ora n
  | jm nn => exact jcc .m nn
  | cm nn => exact ccc .m nn
  | callFD nn => exact callFD nn
  | cpi n => exact aluImm .cmp n
  | nop => exact nop
  | staxB => exact stax .bc
  | inxB => exact inx .bc
  | inrB => exact inrReg .b
  | dcrB => exact dcrReg .b
  | rlc => exact rlc
  | nop08 => exact nop08
  | dadB => exact dad .bc
  | ldaxB => exact ldax .bc
  | dcxB => exact dcx .bc
  | inrC => exact inrReg .c
  | dcrC => exact dcrReg .c
  | rrc => exact rrc
  | nop10 => exact nop10
  | staxD => exact stax .de
  | inxD => exact inx .de
  | inrD => exact inrReg .d
  | dcrD => exact dcrReg .d
  | ral => exact ral
  | nop18 => exact nop18
  | dadD => exact dad .de
  | ldaxD => exact ldax .de
  | dcxD => exact dcx .de
  | inrE => exact inrReg .e
  | dcrE => exact dcrReg .e
  | rar => exact rar
  | nop20 => exact nop20
  | inxH => exact inx .hl
  | inrH => exact inrReg .h
  | dcrH => exact dcrReg .h
  | daa => exact daa
  | nop28 => exact nop28
  | dadH => exact dad .hl
  | dcxH => exact dcx .hl
  | inrL => exact inrReg .l
  | dcrL => exact dcrReg .l
  | cma => exact cma
  | nop30 => exact nop30
  | inxSp => exact inx .sp
  | inrM => exact inrM
  | dcrM => exact dcrM
  | stc => exact stc
  | nop38 => exact nop38
  | dadSp => exact dad .sp
  | dcxSp => exact dcx .sp
  | inrA => exact inrReg .a
  | dcrA => exact dcrReg .a
  | cmc => exact cmc
  | movBB => exact movReg .b .b
  | movBC => exact movReg .b .c
  | movBD => exact movReg .b .d
  | movBE => exact movReg .b .e
  | movBH => exact movReg .b .h
  | movBL => exact movReg .b .l
  | movBM => exact movFromM .b
  | movBA => exact movReg .b .a
  | movCB => exact movReg .c .b
  | movCC => exact movReg .c .c
  | movCD => exact movReg .c .d
  | movCE => exact movReg .c .e
  | movCH => exact movReg .c .h
  | movCL => exact movReg .c .l
  | movCM => exact movFromM .c
  | movCA => exact movReg .c .a
  | movDB => exact movReg .d .b
  | movDC => exact movReg .d .c
  | movDD => exact movReg .d .d
  | movDE => exact movReg .d .e
  | movDH => exact movReg .d .h
  | movDL => exact movReg .d .l
  | movDM => exact movFromM .d
  | movDA => exact movReg .d .a
  | movEB => exact movReg .e .b
  | movEC => exact movReg .e .c
  | movED => exact movReg .e .d
  | movEE => exact movReg .e .e
  | movEH => exact movReg .e .h
  | movEL => exact movReg .e .l
  | movEM => exact movFromM .e
  | movEA => exact movReg .e .a
  | movHB => exact movReg .h .b
  | movHC => exact movReg .h .c
  | movHD => exact movReg .h .d
  | movHE => exact movReg .h .e
  | movHH => exact movReg .h .h
  | movHL => exact movReg .h .l
  | movHM => exact movFromM .h
  | movHA => exact movReg .h .a
  | movLB => exact movReg .l .b
  | movLC => exact movReg .l .c
  | movLD => exact movReg .l .d
  | movLE => exact movReg .l .e
  | movLH => exact movReg .l .h
  | movLL => exact movReg .l .l
  | movLM => exact movFromM .l
  | movLA => exact movReg .l .a
  | movMB => exact movToM .b
  | movMC => exact movToM .c
  | movMD => exact movToM .d
  | movME => exact movToM .e
  | movMH => exact movToM .h
  | movML => exact movToM .l
  | hlt => exact hlt
  | movMA => exact movToM .a
  | movAB => exact movReg .a .b
  | movAC => exact movReg .a .c
  | movAD => exact movReg .a .d
  | movAE => exact movReg .a .e
  | movAH => exact movReg .a .h
  | movAL => exact movReg .a .l
  | movAM => exact movFromM .a
  | movAA => exact movReg .a .a
  | addB => exact aluReg .add .b
  | addC => exact aluReg .add .c
  | addD => exact aluReg .add .d
  | addE => exact aluReg .add .e
  | addH => exact aluReg .add .h
  | addL => exact aluReg .add .l
  | addM => exact aluM .add
  | addA => exact aluReg .add .a
  | adcB => exact aluReg .adc .b
  | adcC => exact aluReg .adc .c
  | adcD => exact aluReg .adc .d
  | adcE => exact aluReg .adc .e
  | adcH => exact aluReg .adc .h
  | adcL => exact aluReg .adc .l
  | adcM => exact aluM .adc
  | adcA => exact aluReg .adc .a
  | subB => exact aluReg .sub .b
  | subC => exact aluReg .sub .c
  | subD => exact aluReg .sub .d
  | subE => exact aluReg .sub .e
  | subH => exact aluReg .sub .h
  | subL => exact aluReg .sub .l
  | subM => exact aluM .sub
  | subA => exact aluReg .sub .a
  | sbbB => exact aluReg .sbb .b
  | sbbC => exact aluReg .sbb .c
  | sbbD => exact aluReg .sbb .d
  | sbbE => exact aluReg .sbb .e
  | sbbH => exact aluReg .sbb .h
  | sbbL => exact aluReg .sbb .l
  | sbbM => exact aluM .sbb
  | sbbA => exact aluReg .sbb .a
  | anaB => exact aluReg .ana .b
  | anaC => exact aluReg .ana .c
  | anaD => exact aluReg .ana .d
  | anaE => exact aluReg .ana .e
  | anaH => exact aluReg .ana .h
  | anaL => exact aluReg .ana .l
  | anaM => exact aluM .ana
  | anaA => exact aluReg .ana .a
  | xraB => exact aluReg .xra .b
  | xraC => exact aluReg .xra .c
  | xraD => exact aluReg .xra .d
  | xraE => exact aluReg .xra .e
  | xraH => exact aluReg .xra .h
  | xraL => exact aluReg .xra .l
  | xraM => exact aluM .xra
  | xraA => exact aluReg .xra .a
  | oraB => exact aluReg .ora .b
  | oraC => exact aluReg .ora .c
  | oraD => exact aluReg .ora .d
  | oraE => exact aluReg .ora .e
  | oraH => exact aluReg .ora .h
  | oraL => exact aluReg .ora .l
  | oraM => exact aluM .ora
  | oraA => exact aluReg .ora .a
  | cmpB => exact aluReg .cmp .b
  | cmpC => exact aluReg .cmp .c
  | cmpD => exact aluReg .cmp .d
  | cmpE => exact aluReg .cmp .e
  | cmpH => exact aluReg .cmp .h
  | cmpL => exact aluReg .cmp .l
  | cmpM => exact aluM .cmp
  | cmpA => exact aluReg .cmp .a
  | rnz => exact rcc .nz
  | popB => exact pop .bc
  | pushB => exact push .bc
  | rst0 => exact rst 0#3
  | rz => exact rcc .z
  | ret => exact ret
  | rst1 => exact rst 1#3
  | rnc => exact rcc .nc
  | popD => exact pop .de
  | pushD => exact push .de
  | rst2 => exact rst 2#3
  | rc => exact rcc .c
  | retD9 => exact retD9
  | rst3 => exact rst 3#3
  | rpo => exact rcc .po
  | popH => exact pop .hl
  | xthl => exact xthl
  | pushH => exact push .hl
  | rst4 => exact rst 4#3
  | rpe => exact rcc .pe
  | pchl => exact pchl
  | xchg => exact xchg
  | rst5 => exact rst 5#3
  | rp => exact rcc .p
  | popPsw => exact popPsw
  | di => exact di
  | pushPsw => exact pushPsw
  | rst6 => exact rst 6#3
  | rm => exact rcc .m
  | sphl => exact sphl
  | ei => exact ei
  | rst7 => exact rst 7#3

end Sys2Proof

namespace Sys2Proof.Machine

variable (s : State)

theorem exec_movReg (dst src : Reg) : exec (Instr.movReg dst src) s = movRegReg dst src s := by cases dst <;> cases src <;> rfl

theorem exec_movFromM (dst : Reg) : exec (Instr.movFromM dst) s = movRegM dst s := by cases dst <;> rfl

theorem exec_movToM (src : Reg) : exec (Instr.movToM src) s = movMReg src s := by cases src <;> rfl

theorem exec_mviReg (dst : Reg) (n : Byte) : exec (Instr.mviReg dst n) s = mviReg dst n s := by cases dst <;> rfl

theorem exec_mviM (n : Byte) : exec (Instr.mviM n) s = mviM n s := rfl

theorem exec_inrReg (dst : Reg) : exec (Instr.inrReg dst) s = inrReg dst s := by cases dst <;> rfl

theorem exec_inrM : exec (Instr.inrM) s = inrM s := rfl

theorem exec_dcrReg (dst : Reg) : exec (Instr.dcrReg dst) s = dcrReg dst s := by cases dst <;> rfl

theorem exec_dcrM : exec (Instr.dcrM) s = dcrM s := rfl

theorem exec_aluReg (op : AluOp) (src : Reg) : exec (Instr.aluReg op src) s = aluReg op src s := by cases op <;> cases src <;> rfl

theorem exec_aluM (op : AluOp) : exec (Instr.aluM op) s = aluM op s := by cases op <;> rfl

theorem exec_aluImm (op : AluOp) (n : Byte) : exec (Instr.aluImm op n) s = aluImm op n s := by cases op <;> rfl

theorem exec_lxi (p : Pair) (nn : Word) : exec (Instr.lxi p nn) s = lxiPair p nn s := by cases p <;> rfl

theorem exec_dad (p : Pair) : exec (Instr.dad p) s = dadPair p s := by cases p <;> rfl

theorem exec_inx (p : Pair) : exec (Instr.inx p) s = inxPair p s := by cases p <;> rfl

theorem exec_dcx (p : Pair) : exec (Instr.dcx p) s = dcxPair p s := by cases p <;> rfl

theorem exec_ldax (p : IndexPair) : exec (Instr.ldax p) s = ldaxPair p s := by cases p <;> rfl

theorem exec_stax (p : IndexPair) : exec (Instr.stax p) s = staxPair p s := by cases p <;> rfl

theorem exec_push (p : StackPair) : exec (Instr.push p) s = pushPair p s := by cases p <;> rfl

theorem exec_pushPsw : exec (Instr.pushPsw) s = pushPsw s := rfl

theorem exec_pop (p : StackPair) : exec (Instr.pop p) s = popPair p s := by cases p <;> rfl

theorem exec_popPsw : exec (Instr.popPsw) s = popPsw s := rfl

theorem exec_jcc (cc : Cond) (nn : Word) : exec (Instr.jcc cc nn) s = jumpIf cc nn s := by cases cc <;> rfl

theorem exec_ccc (cc : Cond) (nn : Word) : exec (Instr.ccc cc nn) s = callIf cc nn s := by cases cc <;> rfl

theorem exec_rcc (cc : Cond) : exec (Instr.rcc cc) s = returnIf cc s := by cases cc <;> rfl

theorem exec_rst (n : BitVec 3) : exec (Instr.rst n) s = restart n s := by
  have h : ∀ m : BitVec 3, m = 0#3 ∨ m = 1#3 ∨ m = 2#3 ∨ m = 3#3 ∨ m = 4#3 ∨ m = 5#3 ∨ m = 6#3 ∨ m = 7#3 := by decide
  rcases h n with rfl | rfl | rfl | rfl | rfl | rfl | rfl | rfl <;> rfl

end Sys2Proof.Machine
end

