-- ==== Sys2Proof/Laws/State.lean ====
section
/-! SUPPORT. The fields of the state after each named update: one lemma per field and update. -/

namespace Sys2Proof.Machine

variable (s : State)

@[simp] theorem State.setReg_flags (r : Reg) (v : Byte) : (s.setReg r v).flags = s.flags := by cases r <;> rfl
@[simp] theorem State.setReg_sp (r : Reg) (v : Byte) : (s.setReg r v).sp = s.sp := by cases r <;> rfl
@[simp] theorem State.setReg_pc (r : Reg) (v : Byte) : (s.setReg r v).pc = s.pc := by cases r <;> rfl
@[simp] theorem State.setReg_cyc (r : Reg) (v : Byte) : (s.setReg r v).cyc = s.cyc := by cases r <;> rfl
@[simp] theorem State.setReg_ie (r : Reg) (v : Byte) : (s.setReg r v).ie = s.ie := by cases r <;> rfl
@[simp] theorem State.setReg_running (r : Reg) (v : Byte) : (s.setReg r v).running = s.running := by cases r <;> rfl
@[simp] theorem State.setReg_mem (r : Reg) (v : Byte) : (s.setReg r v).mem = s.mem := by cases r <;> rfl
@[simp] theorem State.setReg_sr (r : Reg) (v : Byte) : (s.setReg r v).sr = s.sr := by cases r <;> rfl
@[simp] theorem State.setReg_so (r : Reg) (v : Byte) : (s.setReg r v).so = s.so := by cases r <;> rfl
@[simp] theorem State.setReg_ioPorts (r : Reg) (v : Byte) : (s.setReg r v).ioPorts = s.ioPorts := by cases r <;> rfl
@[simp] theorem State.setReg_outStream (r : Reg) (v : Byte) : (s.setReg r v).outStream = s.outStream := by cases r <;> rfl
@[simp] theorem State.setReg_soundEvents (r : Reg) (v : Byte) : (s.setReg r v).soundEvents = s.soundEvents := by cases r <;> rfl
@[simp] theorem State.setReg_loops (r : Reg) (v : Byte) : (s.setReg r v).loops = s.loops := by cases r <;> rfl
@[simp] theorem State.setReg_startY (r : Reg) (v : Byte) : (s.setReg r v).startY = s.startY := by cases r <;> rfl
@[simp] theorem State.setReg_fb (r : Reg) (v : Byte) : (s.setReg r v).fb = s.fb := by cases r <;> rfl
@[simp] theorem State.setReg_lut (r : Reg) (v : Byte) : (s.setReg r v).lut = s.lut := by cases r <;> rfl
@[simp] theorem State.setReg_acc (r : Reg) (v : Byte) : (s.setReg r v).acc = s.acc := by cases r <;> rfl
@[simp] theorem State.setReg_paused (r : Reg) (v : Byte) : (s.setReg r v).paused = s.paused := by cases r <;> rfl
@[simp] theorem State.setReg_saves (r : Reg) (v : Byte) : (s.setReg r v).saves = s.saves := by cases r <;> rfl
@[simp] theorem State.setReg_shutdown (r : Reg) (v : Byte) : (s.setReg r v).shutdown = s.shutdown := by cases r <;> rfl
@[simp] theorem State.setReg_schedule (r : Reg) (v : Byte) : (s.setReg r v).schedule = s.schedule := by cases r <;> rfl
@[simp] theorem State.setReg_mode (r : Reg) (v : Byte) : (s.setReg r v).mode = s.mode := by cases r <;> rfl
@[simp] theorem State.setReg_scheme (r : Reg) (v : Byte) : (s.setReg r v).scheme = s.scheme := by cases r <;> rfl
@[simp] theorem State.setReg_throttled (r : Reg) (v : Byte) : (s.setReg r v).throttled = s.throttled := by cases r <;> rfl

@[simp] theorem State.setBc_a (v : Word) : (s.setBc v).a = s.a := rfl
@[simp] theorem State.setBc_b (v : Word) : (s.setBc v).b = v.hi := rfl
@[simp] theorem State.setBc_c (v : Word) : (s.setBc v).c = v.lo := rfl
@[simp] theorem State.setBc_d (v : Word) : (s.setBc v).d = s.d := rfl
@[simp] theorem State.setBc_e (v : Word) : (s.setBc v).e = s.e := rfl
@[simp] theorem State.setBc_h (v : Word) : (s.setBc v).h = s.h := rfl
@[simp] theorem State.setBc_l (v : Word) : (s.setBc v).l = s.l := rfl
@[simp] theorem State.setBc_flags (v : Word) : (s.setBc v).flags = s.flags := rfl
@[simp] theorem State.setBc_sp (v : Word) : (s.setBc v).sp = s.sp := rfl
@[simp] theorem State.setBc_pc (v : Word) : (s.setBc v).pc = s.pc := rfl
@[simp] theorem State.setBc_cyc (v : Word) : (s.setBc v).cyc = s.cyc := rfl
@[simp] theorem State.setBc_ie (v : Word) : (s.setBc v).ie = s.ie := rfl
@[simp] theorem State.setBc_running (v : Word) : (s.setBc v).running = s.running := rfl
@[simp] theorem State.setBc_mem (v : Word) : (s.setBc v).mem = s.mem := rfl
@[simp] theorem State.setBc_sr (v : Word) : (s.setBc v).sr = s.sr := rfl
@[simp] theorem State.setBc_so (v : Word) : (s.setBc v).so = s.so := rfl
@[simp] theorem State.setBc_ioPorts (v : Word) : (s.setBc v).ioPorts = s.ioPorts := rfl
@[simp] theorem State.setBc_outStream (v : Word) : (s.setBc v).outStream = s.outStream := rfl
@[simp] theorem State.setBc_soundEvents (v : Word) : (s.setBc v).soundEvents = s.soundEvents := rfl
@[simp] theorem State.setBc_loops (v : Word) : (s.setBc v).loops = s.loops := rfl
@[simp] theorem State.setBc_startY (v : Word) : (s.setBc v).startY = s.startY := rfl
@[simp] theorem State.setBc_fb (v : Word) : (s.setBc v).fb = s.fb := rfl
@[simp] theorem State.setBc_lut (v : Word) : (s.setBc v).lut = s.lut := rfl
@[simp] theorem State.setBc_acc (v : Word) : (s.setBc v).acc = s.acc := rfl
@[simp] theorem State.setBc_paused (v : Word) : (s.setBc v).paused = s.paused := rfl
@[simp] theorem State.setBc_saves (v : Word) : (s.setBc v).saves = s.saves := rfl
@[simp] theorem State.setBc_shutdown (v : Word) : (s.setBc v).shutdown = s.shutdown := rfl
@[simp] theorem State.setBc_schedule (v : Word) : (s.setBc v).schedule = s.schedule := rfl
@[simp] theorem State.setBc_mode (v : Word) : (s.setBc v).mode = s.mode := rfl
@[simp] theorem State.setBc_scheme (v : Word) : (s.setBc v).scheme = s.scheme := rfl
@[simp] theorem State.setBc_throttled (v : Word) : (s.setBc v).throttled = s.throttled := rfl

@[simp] theorem State.setDe_a (v : Word) : (s.setDe v).a = s.a := rfl
@[simp] theorem State.setDe_b (v : Word) : (s.setDe v).b = s.b := rfl
@[simp] theorem State.setDe_c (v : Word) : (s.setDe v).c = s.c := rfl
@[simp] theorem State.setDe_d (v : Word) : (s.setDe v).d = v.hi := rfl
@[simp] theorem State.setDe_e (v : Word) : (s.setDe v).e = v.lo := rfl
@[simp] theorem State.setDe_h (v : Word) : (s.setDe v).h = s.h := rfl
@[simp] theorem State.setDe_l (v : Word) : (s.setDe v).l = s.l := rfl
@[simp] theorem State.setDe_flags (v : Word) : (s.setDe v).flags = s.flags := rfl
@[simp] theorem State.setDe_sp (v : Word) : (s.setDe v).sp = s.sp := rfl
@[simp] theorem State.setDe_pc (v : Word) : (s.setDe v).pc = s.pc := rfl
@[simp] theorem State.setDe_cyc (v : Word) : (s.setDe v).cyc = s.cyc := rfl
@[simp] theorem State.setDe_ie (v : Word) : (s.setDe v).ie = s.ie := rfl
@[simp] theorem State.setDe_running (v : Word) : (s.setDe v).running = s.running := rfl
@[simp] theorem State.setDe_mem (v : Word) : (s.setDe v).mem = s.mem := rfl
@[simp] theorem State.setDe_sr (v : Word) : (s.setDe v).sr = s.sr := rfl
@[simp] theorem State.setDe_so (v : Word) : (s.setDe v).so = s.so := rfl
@[simp] theorem State.setDe_ioPorts (v : Word) : (s.setDe v).ioPorts = s.ioPorts := rfl
@[simp] theorem State.setDe_outStream (v : Word) : (s.setDe v).outStream = s.outStream := rfl
@[simp] theorem State.setDe_soundEvents (v : Word) : (s.setDe v).soundEvents = s.soundEvents := rfl
@[simp] theorem State.setDe_loops (v : Word) : (s.setDe v).loops = s.loops := rfl
@[simp] theorem State.setDe_startY (v : Word) : (s.setDe v).startY = s.startY := rfl
@[simp] theorem State.setDe_fb (v : Word) : (s.setDe v).fb = s.fb := rfl
@[simp] theorem State.setDe_lut (v : Word) : (s.setDe v).lut = s.lut := rfl
@[simp] theorem State.setDe_acc (v : Word) : (s.setDe v).acc = s.acc := rfl
@[simp] theorem State.setDe_paused (v : Word) : (s.setDe v).paused = s.paused := rfl
@[simp] theorem State.setDe_saves (v : Word) : (s.setDe v).saves = s.saves := rfl
@[simp] theorem State.setDe_shutdown (v : Word) : (s.setDe v).shutdown = s.shutdown := rfl
@[simp] theorem State.setDe_schedule (v : Word) : (s.setDe v).schedule = s.schedule := rfl
@[simp] theorem State.setDe_mode (v : Word) : (s.setDe v).mode = s.mode := rfl
@[simp] theorem State.setDe_scheme (v : Word) : (s.setDe v).scheme = s.scheme := rfl
@[simp] theorem State.setDe_throttled (v : Word) : (s.setDe v).throttled = s.throttled := rfl

@[simp] theorem State.setHl_a (v : Word) : (s.setHl v).a = s.a := rfl
@[simp] theorem State.setHl_b (v : Word) : (s.setHl v).b = s.b := rfl
@[simp] theorem State.setHl_c (v : Word) : (s.setHl v).c = s.c := rfl
@[simp] theorem State.setHl_d (v : Word) : (s.setHl v).d = s.d := rfl
@[simp] theorem State.setHl_e (v : Word) : (s.setHl v).e = s.e := rfl
@[simp] theorem State.setHl_h (v : Word) : (s.setHl v).h = v.hi := rfl
@[simp] theorem State.setHl_l (v : Word) : (s.setHl v).l = v.lo := rfl
@[simp] theorem State.setHl_flags (v : Word) : (s.setHl v).flags = s.flags := rfl
@[simp] theorem State.setHl_sp (v : Word) : (s.setHl v).sp = s.sp := rfl
@[simp] theorem State.setHl_pc (v : Word) : (s.setHl v).pc = s.pc := rfl
@[simp] theorem State.setHl_cyc (v : Word) : (s.setHl v).cyc = s.cyc := rfl
@[simp] theorem State.setHl_ie (v : Word) : (s.setHl v).ie = s.ie := rfl
@[simp] theorem State.setHl_running (v : Word) : (s.setHl v).running = s.running := rfl
@[simp] theorem State.setHl_mem (v : Word) : (s.setHl v).mem = s.mem := rfl
@[simp] theorem State.setHl_sr (v : Word) : (s.setHl v).sr = s.sr := rfl
@[simp] theorem State.setHl_so (v : Word) : (s.setHl v).so = s.so := rfl
@[simp] theorem State.setHl_ioPorts (v : Word) : (s.setHl v).ioPorts = s.ioPorts := rfl
@[simp] theorem State.setHl_outStream (v : Word) : (s.setHl v).outStream = s.outStream := rfl
@[simp] theorem State.setHl_soundEvents (v : Word) : (s.setHl v).soundEvents = s.soundEvents := rfl
@[simp] theorem State.setHl_loops (v : Word) : (s.setHl v).loops = s.loops := rfl
@[simp] theorem State.setHl_startY (v : Word) : (s.setHl v).startY = s.startY := rfl
@[simp] theorem State.setHl_fb (v : Word) : (s.setHl v).fb = s.fb := rfl
@[simp] theorem State.setHl_lut (v : Word) : (s.setHl v).lut = s.lut := rfl
@[simp] theorem State.setHl_acc (v : Word) : (s.setHl v).acc = s.acc := rfl
@[simp] theorem State.setHl_paused (v : Word) : (s.setHl v).paused = s.paused := rfl
@[simp] theorem State.setHl_saves (v : Word) : (s.setHl v).saves = s.saves := rfl
@[simp] theorem State.setHl_shutdown (v : Word) : (s.setHl v).shutdown = s.shutdown := rfl
@[simp] theorem State.setHl_schedule (v : Word) : (s.setHl v).schedule = s.schedule := rfl
@[simp] theorem State.setHl_mode (v : Word) : (s.setHl v).mode = s.mode := rfl
@[simp] theorem State.setHl_scheme (v : Word) : (s.setHl v).scheme = s.scheme := rfl
@[simp] theorem State.setHl_throttled (v : Word) : (s.setHl v).throttled = s.throttled := rfl

@[simp] theorem State.setPair_a (p : Pair) (v : Word) : (s.setPair p v).a = s.a := by cases p <;> rfl
@[simp] theorem State.setPair_flags (p : Pair) (v : Word) : (s.setPair p v).flags = s.flags := by cases p <;> rfl
@[simp] theorem State.setPair_pc (p : Pair) (v : Word) : (s.setPair p v).pc = s.pc := by cases p <;> rfl
@[simp] theorem State.setPair_cyc (p : Pair) (v : Word) : (s.setPair p v).cyc = s.cyc := by cases p <;> rfl
@[simp] theorem State.setPair_ie (p : Pair) (v : Word) : (s.setPair p v).ie = s.ie := by cases p <;> rfl
@[simp] theorem State.setPair_running (p : Pair) (v : Word) : (s.setPair p v).running = s.running := by cases p <;> rfl
@[simp] theorem State.setPair_mem (p : Pair) (v : Word) : (s.setPair p v).mem = s.mem := by cases p <;> rfl
@[simp] theorem State.setPair_sr (p : Pair) (v : Word) : (s.setPair p v).sr = s.sr := by cases p <;> rfl
@[simp] theorem State.setPair_so (p : Pair) (v : Word) : (s.setPair p v).so = s.so := by cases p <;> rfl
@[simp] theorem State.setPair_ioPorts (p : Pair) (v : Word) : (s.setPair p v).ioPorts = s.ioPorts := by cases p <;> rfl
@[simp] theorem State.setPair_outStream (p : Pair) (v : Word) : (s.setPair p v).outStream = s.outStream := by cases p <;> rfl
@[simp] theorem State.setPair_soundEvents (p : Pair) (v : Word) : (s.setPair p v).soundEvents = s.soundEvents := by cases p <;> rfl
@[simp] theorem State.setPair_loops (p : Pair) (v : Word) : (s.setPair p v).loops = s.loops := by cases p <;> rfl
@[simp] theorem State.setPair_startY (p : Pair) (v : Word) : (s.setPair p v).startY = s.startY := by cases p <;> rfl
@[simp] theorem State.setPair_fb (p : Pair) (v : Word) : (s.setPair p v).fb = s.fb := by cases p <;> rfl
@[simp] theorem State.setPair_lut (p : Pair) (v : Word) : (s.setPair p v).lut = s.lut := by cases p <;> rfl
@[simp] theorem State.setPair_acc (p : Pair) (v : Word) : (s.setPair p v).acc = s.acc := by cases p <;> rfl
@[simp] theorem State.setPair_paused (p : Pair) (v : Word) : (s.setPair p v).paused = s.paused := by cases p <;> rfl
@[simp] theorem State.setPair_saves (p : Pair) (v : Word) : (s.setPair p v).saves = s.saves := by cases p <;> rfl
@[simp] theorem State.setPair_shutdown (p : Pair) (v : Word) : (s.setPair p v).shutdown = s.shutdown := by cases p <;> rfl
@[simp] theorem State.setPair_schedule (p : Pair) (v : Word) : (s.setPair p v).schedule = s.schedule := by cases p <;> rfl
@[simp] theorem State.setPair_mode (p : Pair) (v : Word) : (s.setPair p v).mode = s.mode := by cases p <;> rfl
@[simp] theorem State.setPair_scheme (p : Pair) (v : Word) : (s.setPair p v).scheme = s.scheme := by cases p <;> rfl
@[simp] theorem State.setPair_throttled (p : Pair) (v : Word) : (s.setPair p v).throttled = s.throttled := by cases p <;> rfl

@[simp] theorem State.setStackPair_a (p : StackPair) (v : Word) : (s.setStackPair p v).a = s.a := by cases p <;> rfl
@[simp] theorem State.setStackPair_flags (p : StackPair) (v : Word) : (s.setStackPair p v).flags = s.flags := by cases p <;> rfl
@[simp] theorem State.setStackPair_sp (p : StackPair) (v : Word) : (s.setStackPair p v).sp = s.sp := by cases p <;> rfl
@[simp] theorem State.setStackPair_pc (p : StackPair) (v : Word) : (s.setStackPair p v).pc = s.pc := by cases p <;> rfl
@[simp] theorem State.setStackPair_cyc (p : StackPair) (v : Word) : (s.setStackPair p v).cyc = s.cyc := by cases p <;> rfl
@[simp] theorem State.setStackPair_ie (p : StackPair) (v : Word) : (s.setStackPair p v).ie = s.ie := by cases p <;> rfl
@[simp] theorem State.setStackPair_running (p : StackPair) (v : Word) : (s.setStackPair p v).running = s.running := by cases p <;> rfl
@[simp] theorem State.setStackPair_mem (p : StackPair) (v : Word) : (s.setStackPair p v).mem = s.mem := by cases p <;> rfl
@[simp] theorem State.setStackPair_sr (p : StackPair) (v : Word) : (s.setStackPair p v).sr = s.sr := by cases p <;> rfl
@[simp] theorem State.setStackPair_so (p : StackPair) (v : Word) : (s.setStackPair p v).so = s.so := by cases p <;> rfl
@[simp] theorem State.setStackPair_ioPorts (p : StackPair) (v : Word) : (s.setStackPair p v).ioPorts = s.ioPorts := by cases p <;> rfl
@[simp] theorem State.setStackPair_outStream (p : StackPair) (v : Word) : (s.setStackPair p v).outStream = s.outStream := by cases p <;> rfl
@[simp] theorem State.setStackPair_soundEvents (p : StackPair) (v : Word) : (s.setStackPair p v).soundEvents = s.soundEvents := by cases p <;> rfl
@[simp] theorem State.setStackPair_loops (p : StackPair) (v : Word) : (s.setStackPair p v).loops = s.loops := by cases p <;> rfl
@[simp] theorem State.setStackPair_startY (p : StackPair) (v : Word) : (s.setStackPair p v).startY = s.startY := by cases p <;> rfl
@[simp] theorem State.setStackPair_fb (p : StackPair) (v : Word) : (s.setStackPair p v).fb = s.fb := by cases p <;> rfl
@[simp] theorem State.setStackPair_lut (p : StackPair) (v : Word) : (s.setStackPair p v).lut = s.lut := by cases p <;> rfl
@[simp] theorem State.setStackPair_acc (p : StackPair) (v : Word) : (s.setStackPair p v).acc = s.acc := by cases p <;> rfl
@[simp] theorem State.setStackPair_paused (p : StackPair) (v : Word) : (s.setStackPair p v).paused = s.paused := by cases p <;> rfl
@[simp] theorem State.setStackPair_saves (p : StackPair) (v : Word) : (s.setStackPair p v).saves = s.saves := by cases p <;> rfl
@[simp] theorem State.setStackPair_shutdown (p : StackPair) (v : Word) : (s.setStackPair p v).shutdown = s.shutdown := by cases p <;> rfl
@[simp] theorem State.setStackPair_schedule (p : StackPair) (v : Word) : (s.setStackPair p v).schedule = s.schedule := by cases p <;> rfl
@[simp] theorem State.setStackPair_mode (p : StackPair) (v : Word) : (s.setStackPair p v).mode = s.mode := by cases p <;> rfl
@[simp] theorem State.setStackPair_scheme (p : StackPair) (v : Word) : (s.setStackPair p v).scheme = s.scheme := by cases p <;> rfl
@[simp] theorem State.setStackPair_throttled (p : StackPair) (v : Word) : (s.setStackPair p v).throttled = s.throttled := by cases p <;> rfl

@[simp] theorem State.writeByte_a (x : Word) (v : Byte) : (s.writeByte x v).a = s.a := rfl
@[simp] theorem State.writeByte_b (x : Word) (v : Byte) : (s.writeByte x v).b = s.b := rfl
@[simp] theorem State.writeByte_c (x : Word) (v : Byte) : (s.writeByte x v).c = s.c := rfl
@[simp] theorem State.writeByte_d (x : Word) (v : Byte) : (s.writeByte x v).d = s.d := rfl
@[simp] theorem State.writeByte_e (x : Word) (v : Byte) : (s.writeByte x v).e = s.e := rfl
@[simp] theorem State.writeByte_h (x : Word) (v : Byte) : (s.writeByte x v).h = s.h := rfl
@[simp] theorem State.writeByte_l (x : Word) (v : Byte) : (s.writeByte x v).l = s.l := rfl
@[simp] theorem State.writeByte_flags (x : Word) (v : Byte) : (s.writeByte x v).flags = s.flags := rfl
@[simp] theorem State.writeByte_sp (x : Word) (v : Byte) : (s.writeByte x v).sp = s.sp := rfl
@[simp] theorem State.writeByte_pc (x : Word) (v : Byte) : (s.writeByte x v).pc = s.pc := rfl
@[simp] theorem State.writeByte_cyc (x : Word) (v : Byte) : (s.writeByte x v).cyc = s.cyc := rfl
@[simp] theorem State.writeByte_ie (x : Word) (v : Byte) : (s.writeByte x v).ie = s.ie := rfl
@[simp] theorem State.writeByte_running (x : Word) (v : Byte) : (s.writeByte x v).running = s.running := rfl
@[simp] theorem State.writeByte_mem (x : Word) (v : Byte) : (s.writeByte x v).mem = s.mem.write x v := rfl
@[simp] theorem State.writeByte_sr (x : Word) (v : Byte) : (s.writeByte x v).sr = s.sr := rfl
@[simp] theorem State.writeByte_so (x : Word) (v : Byte) : (s.writeByte x v).so = s.so := rfl
@[simp] theorem State.writeByte_ioPorts (x : Word) (v : Byte) : (s.writeByte x v).ioPorts = s.ioPorts := rfl
@[simp] theorem State.writeByte_outStream (x : Word) (v : Byte) : (s.writeByte x v).outStream = s.outStream := rfl
@[simp] theorem State.writeByte_soundEvents (x : Word) (v : Byte) : (s.writeByte x v).soundEvents = s.soundEvents := rfl
@[simp] theorem State.writeByte_loops (x : Word) (v : Byte) : (s.writeByte x v).loops = s.loops := rfl
@[simp] theorem State.writeByte_startY (x : Word) (v : Byte) : (s.writeByte x v).startY = s.startY := rfl
@[simp] theorem State.writeByte_fb (x : Word) (v : Byte) : (s.writeByte x v).fb = s.fb := rfl
@[simp] theorem State.writeByte_lut (x : Word) (v : Byte) : (s.writeByte x v).lut = s.lut := rfl
@[simp] theorem State.writeByte_acc (x : Word) (v : Byte) : (s.writeByte x v).acc = s.acc := rfl
@[simp] theorem State.writeByte_paused (x : Word) (v : Byte) : (s.writeByte x v).paused = s.paused := rfl
@[simp] theorem State.writeByte_saves (x : Word) (v : Byte) : (s.writeByte x v).saves = s.saves := rfl
@[simp] theorem State.writeByte_shutdown (x : Word) (v : Byte) : (s.writeByte x v).shutdown = s.shutdown := rfl
@[simp] theorem State.writeByte_schedule (x : Word) (v : Byte) : (s.writeByte x v).schedule = s.schedule := rfl
@[simp] theorem State.writeByte_mode (x : Word) (v : Byte) : (s.writeByte x v).mode = s.mode := rfl
@[simp] theorem State.writeByte_scheme (x : Word) (v : Byte) : (s.writeByte x v).scheme = s.scheme := rfl
@[simp] theorem State.writeByte_throttled (x : Word) (v : Byte) : (s.writeByte x v).throttled = s.throttled := rfl

@[simp] theorem State.writeM_a (v : Byte) : (s.writeM v).a = s.a := rfl
@[simp] theorem State.writeM_b (v : Byte) : (s.writeM v).b = s.b := rfl
@[simp] theorem State.writeM_c (v : Byte) : (s.writeM v).c = s.c := rfl
@[simp] theorem State.writeM_d (v : Byte) : (s.writeM v).d = s.d := rfl
@[simp] theorem State.writeM_e (v : Byte) : (s.writeM v).e = s.e := rfl
@[simp] theorem State.writeM_h (v : Byte) : (s.writeM v).h = s.h := rfl
@[simp] theorem State.writeM_l (v : Byte) : (s.writeM v).l = s.l := rfl
@[simp] theorem State.writeM_flags (v : Byte) : (s.writeM v).flags = s.flags := rfl
@[simp] theorem State.writeM_sp (v : Byte) : (s.writeM v).sp = s.sp := rfl
@[simp] theorem State.writeM_pc (v : Byte) : (s.writeM v).pc = s.pc := rfl
@[simp] theorem State.writeM_cyc (v : Byte) : (s.writeM v).cyc = s.cyc := rfl
@[simp] theorem State.writeM_ie (v : Byte) : (s.writeM v).ie = s.ie := rfl
@[simp] theorem State.writeM_running (v : Byte) : (s.writeM v).running = s.running := rfl
@[simp] theorem State.writeM_mem (v : Byte) : (s.writeM v).mem = s.mem.write s.hl v := rfl
@[simp] theorem State.writeM_sr (v : Byte) : (s.writeM v).sr = s.sr := rfl
@[simp] theorem State.writeM_so (v : Byte) : (s.writeM v).so = s.so := rfl
@[simp] theorem State.writeM_ioPorts (v : Byte) : (s.writeM v).ioPorts = s.ioPorts := rfl
@[simp] theorem State.writeM_outStream (v : Byte) : (s.writeM v).outStream = s.outStream := rfl
@[simp] theorem State.writeM_soundEvents (v : Byte) : (s.writeM v).soundEvents = s.soundEvents := rfl
@[simp] theorem State.writeM_loops (v : Byte) : (s.writeM v).loops = s.loops := rfl
@[simp] theorem State.writeM_startY (v : Byte) : (s.writeM v).startY = s.startY := rfl
@[simp] theorem State.writeM_fb (v : Byte) : (s.writeM v).fb = s.fb := rfl
@[simp] theorem State.writeM_lut (v : Byte) : (s.writeM v).lut = s.lut := rfl
@[simp] theorem State.writeM_acc (v : Byte) : (s.writeM v).acc = s.acc := rfl
@[simp] theorem State.writeM_paused (v : Byte) : (s.writeM v).paused = s.paused := rfl
@[simp] theorem State.writeM_saves (v : Byte) : (s.writeM v).saves = s.saves := rfl
@[simp] theorem State.writeM_shutdown (v : Byte) : (s.writeM v).shutdown = s.shutdown := rfl
@[simp] theorem State.writeM_schedule (v : Byte) : (s.writeM v).schedule = s.schedule := rfl
@[simp] theorem State.writeM_mode (v : Byte) : (s.writeM v).mode = s.mode := rfl
@[simp] theorem State.writeM_scheme (v : Byte) : (s.writeM v).scheme = s.scheme := rfl
@[simp] theorem State.writeM_throttled (v : Byte) : (s.writeM v).throttled = s.throttled := rfl

@[simp] theorem State.writeWord_a (x v : Word) : (s.writeWord x v).a = s.a := rfl
@[simp] theorem State.writeWord_b (x v : Word) : (s.writeWord x v).b = s.b := rfl
@[simp] theorem State.writeWord_c (x v : Word) : (s.writeWord x v).c = s.c := rfl
@[simp] theorem State.writeWord_d (x v : Word) : (s.writeWord x v).d = s.d := rfl
@[simp] theorem State.writeWord_e (x v : Word) : (s.writeWord x v).e = s.e := rfl
@[simp] theorem State.writeWord_h (x v : Word) : (s.writeWord x v).h = s.h := rfl
@[simp] theorem State.writeWord_l (x v : Word) : (s.writeWord x v).l = s.l := rfl
@[simp] theorem State.writeWord_flags (x v : Word) : (s.writeWord x v).flags = s.flags := rfl
@[simp] theorem State.writeWord_sp (x v : Word) : (s.writeWord x v).sp = s.sp := rfl
@[simp] theorem State.writeWord_pc (x v : Word) : (s.writeWord x v).pc = s.pc := rfl
@[simp] theorem State.writeWord_cyc (x v : Word) : (s.writeWord x v).cyc = s.cyc := rfl
@[simp] theorem State.writeWord_ie (x v : Word) : (s.writeWord x v).ie = s.ie := rfl
@[simp] theorem State.writeWord_running (x v : Word) : (s.writeWord x v).running = s.running := rfl
@[simp] theorem State.writeWord_mem (x v : Word) : (s.writeWord x v).mem = (s.mem.write x v.lo).write (x + 1) v.hi := rfl
@[simp] theorem State.writeWord_sr (x v : Word) : (s.writeWord x v).sr = s.sr := rfl
@[simp] theorem State.writeWord_so (x v : Word) : (s.writeWord x v).so = s.so := rfl
@[simp] theorem State.writeWord_ioPorts (x v : Word) : (s.writeWord x v).ioPorts = s.ioPorts := rfl
@[simp] theorem State.writeWord_outStream (x v : Word) : (s.writeWord x v).outStream = s.outStream := rfl
@[simp] theorem State.writeWord_soundEvents (x v : Word) : (s.writeWord x v).soundEvents = s.soundEvents := rfl
@[simp] theorem State.writeWord_loops (x v : Word) : (s.writeWord x v).loops = s.loops := rfl
@[simp] theorem State.writeWord_startY (x v : Word) : (s.writeWord x v).startY = s.startY := rfl
@[simp] theorem State.writeWord_fb (x v : Word) : (s.writeWord x v).fb = s.fb := rfl
@[simp] theorem State.writeWord_lut (x v : Word) : (s.writeWord x v).lut = s.lut := rfl
@[simp] theorem State.writeWord_acc (x v : Word) : (s.writeWord x v).acc = s.acc := rfl
@[simp] theorem State.writeWord_paused (x v : Word) : (s.writeWord x v).paused = s.paused := rfl
@[simp] theorem State.writeWord_saves (x v : Word) : (s.writeWord x v).saves = s.saves := rfl
@[simp] theorem State.writeWord_shutdown (x v : Word) : (s.writeWord x v).shutdown = s.shutdown := rfl
@[simp] theorem State.writeWord_schedule (x v : Word) : (s.writeWord x v).schedule = s.schedule := rfl
@[simp] theorem State.writeWord_mode (x v : Word) : (s.writeWord x v).mode = s.mode := rfl
@[simp] theorem State.writeWord_scheme (x v : Word) : (s.writeWord x v).scheme = s.scheme := rfl
@[simp] theorem State.writeWord_throttled (x v : Word) : (s.writeWord x v).throttled = s.throttled := rfl

@[simp] theorem State.push16_a (v : Word) : (s.push16 v).a = s.a := rfl
@[simp] theorem State.push16_b (v : Word) : (s.push16 v).b = s.b := rfl
@[simp] theorem State.push16_c (v : Word) : (s.push16 v).c = s.c := rfl
@[simp] theorem State.push16_d (v : Word) : (s.push16 v).d = s.d := rfl
@[simp] theorem State.push16_e (v : Word) : (s.push16 v).e = s.e := rfl
@[simp] theorem State.push16_h (v : Word) : (s.push16 v).h = s.h := rfl
@[simp] theorem State.push16_l (v : Word) : (s.push16 v).l = s.l := rfl
@[simp] theorem State.push16_flags (v : Word) : (s.push16 v).flags = s.flags := rfl
@[simp] theorem State.push16_sp (v : Word) : (s.push16 v).sp = s.sp - 2 := rfl
@[simp] theorem State.push16_pc (v : Word) : (s.push16 v).pc = s.pc := rfl
@[simp] theorem State.push16_cyc (v : Word) : (s.push16 v).cyc = s.cyc := rfl
@[simp] theorem State.push16_ie (v : Word) : (s.push16 v).ie = s.ie := rfl
@[simp] theorem State.push16_running (v : Word) : (s.push16 v).running = s.running := rfl
@[simp] theorem State.push16_mem (v : Word) : (s.push16 v).mem = (s.mem.write (s.sp - 2) v.lo).write (s.sp - 2 + 1) v.hi := rfl
@[simp] theorem State.push16_sr (v : Word) : (s.push16 v).sr = s.sr := rfl
@[simp] theorem State.push16_so (v : Word) : (s.push16 v).so = s.so := rfl
@[simp] theorem State.push16_ioPorts (v : Word) : (s.push16 v).ioPorts = s.ioPorts := rfl
@[simp] theorem State.push16_outStream (v : Word) : (s.push16 v).outStream = s.outStream := rfl
@[simp] theorem State.push16_soundEvents (v : Word) : (s.push16 v).soundEvents = s.soundEvents := rfl
@[simp] theorem State.push16_loops (v : Word) : (s.push16 v).loops = s.loops := rfl
@[simp] theorem State.push16_startY (v : Word) : (s.push16 v).startY = s.startY := rfl
@[simp] theorem State.push16_fb (v : Word) : (s.push16 v).fb = s.fb := rfl
@[simp] theorem State.push16_lut (v : Word) : (s.push16 v).lut = s.lut := rfl
@[simp] theorem State.push16_acc (v : Word) : (s.push16 v).acc = s.acc := rfl
@[simp] theorem State.push16_paused (v : Word) : (s.push16 v).paused = s.paused := rfl
@[simp] theorem State.push16_saves (v : Word) : (s.push16 v).saves = s.saves := rfl
@[simp] theorem State.push16_shutdown (v : Word) : (s.push16 v).shutdown = s.shutdown := rfl
@[simp] theorem State.push16_schedule (v : Word) : (s.push16 v).schedule = s.schedule := rfl
@[simp] theorem State.push16_mode (v : Word) : (s.push16 v).mode = s.mode := rfl
@[simp] theorem State.push16_scheme (v : Word) : (s.push16 v).scheme = s.scheme := rfl
@[simp] theorem State.push16_throttled (v : Word) : (s.push16 v).throttled = s.throttled := rfl

@[simp] theorem State.drop16_a : (s.drop16).a = s.a := rfl
@[simp] theorem State.drop16_b : (s.drop16).b = s.b := rfl
@[simp] theorem State.drop16_c : (s.drop16).c = s.c := rfl
@[simp] theorem State.drop16_d : (s.drop16).d = s.d := rfl
@[simp] theorem State.drop16_e : (s.drop16).e = s.e := rfl
@[simp] theorem State.drop16_h : (s.drop16).h = s.h := rfl
@[simp] theorem State.drop16_l : (s.drop16).l = s.l := rfl
@[simp] theorem State.drop16_flags : (s.drop16).flags = s.flags := rfl
@[simp] theorem State.drop16_sp : (s.drop16).sp = s.sp + 2 := rfl
@[simp] theorem State.drop16_pc : (s.drop16).pc = s.pc := rfl
@[simp] theorem State.drop16_cyc : (s.drop16).cyc = s.cyc := rfl
@[simp] theorem State.drop16_ie : (s.drop16).ie = s.ie := rfl
@[simp] theorem State.drop16_running : (s.drop16).running = s.running := rfl
@[simp] theorem State.drop16_mem : (s.drop16).mem = s.mem := rfl
@[simp] theorem State.drop16_sr : (s.drop16).sr = s.sr := rfl
@[simp] theorem State.drop16_so : (s.drop16).so = s.so := rfl
@[simp] theorem State.drop16_ioPorts : (s.drop16).ioPorts = s.ioPorts := rfl
@[simp] theorem State.drop16_outStream : (s.drop16).outStream = s.outStream := rfl
@[simp] theorem State.drop16_soundEvents : (s.drop16).soundEvents = s.soundEvents := rfl
@[simp] theorem State.drop16_loops : (s.drop16).loops = s.loops := rfl
@[simp] theorem State.drop16_startY : (s.drop16).startY = s.startY := rfl
@[simp] theorem State.drop16_fb : (s.drop16).fb = s.fb := rfl
@[simp] theorem State.drop16_lut : (s.drop16).lut = s.lut := rfl
@[simp] theorem State.drop16_acc : (s.drop16).acc = s.acc := rfl
@[simp] theorem State.drop16_paused : (s.drop16).paused = s.paused := rfl
@[simp] theorem State.drop16_saves : (s.drop16).saves = s.saves := rfl
@[simp] theorem State.drop16_shutdown : (s.drop16).shutdown = s.shutdown := rfl
@[simp] theorem State.drop16_schedule : (s.drop16).schedule = s.schedule := rfl
@[simp] theorem State.drop16_mode : (s.drop16).mode = s.mode := rfl
@[simp] theorem State.drop16_scheme : (s.drop16).scheme = s.scheme := rfl
@[simp] theorem State.drop16_throttled : (s.drop16).throttled = s.throttled := rfl

@[simp] theorem State.goto_a (target : Word) (n : Nat) : (s.goto target n).a = s.a := rfl
@[simp] theorem State.goto_b (target : Word) (n : Nat) : (s.goto target n).b = s.b := rfl
@[simp] theorem State.goto_c (target : Word) (n : Nat) : (s.goto target n).c = s.c := rfl
@[simp] theorem State.goto_d (target : Word) (n : Nat) : (s.goto target n).d = s.d := rfl
@[simp] theorem State.goto_e (target : Word) (n : Nat) : (s.goto target n).e = s.e := rfl
@[simp] theorem State.goto_h (target : Word) (n : Nat) : (s.goto target n).h = s.h := rfl
@[simp] theorem State.goto_l (target : Word) (n : Nat) : (s.goto target n).l = s.l := rfl
@[simp] theorem State.goto_flags (target : Word) (n : Nat) : (s.goto target n).flags = s.flags := rfl
@[simp] theorem State.goto_sp (target : Word) (n : Nat) : (s.goto target n).sp = s.sp := rfl
@[simp] theorem State.goto_pc (target : Word) (n : Nat) : (s.goto target n).pc = target := rfl
@[simp] theorem State.goto_cyc (target : Word) (n : Nat) : (s.goto target n).cyc = s.cyc + BitVec.ofNat 64 n := rfl
@[simp] theorem State.goto_ie (target : Word) (n : Nat) : (s.goto target n).ie = s.ie := rfl
@[simp] theorem State.goto_running (target : Word) (n : Nat) : (s.goto target n).running = s.running := rfl
@[simp] theorem State.goto_mem (target : Word) (n : Nat) : (s.goto target n).mem = s.mem := rfl
@[simp] theorem State.goto_sr (target : Word) (n : Nat) : (s.goto target n).sr = s.sr := rfl
@[simp] theorem State.goto_so (target : Word) (n : Nat) : (s.goto target n).so = s.so := rfl
@[simp] theorem State.goto_ioPorts (target : Word) (n : Nat) : (s.goto target n).ioPorts = s.ioPorts := rfl
@[simp] theorem State.goto_outStream (target : Word) (n : Nat) : (s.goto target n).outStream = s.outStream := rfl
@[simp] theorem State.goto_soundEvents (target : Word) (n : Nat) : (s.goto target n).soundEvents = s.soundEvents := rfl
@[simp] theorem State.goto_loops (target : Word) (n : Nat) : (s.goto target n).loops = s.loops := rfl
@[simp] theorem State.goto_startY (target : Word) (n : Nat) : (s.goto target n).startY = s.startY := rfl
@[simp] theorem State.goto_fb (target : Word) (n : Nat) : (s.goto target n).fb = s.fb := rfl
@[simp] theorem State.goto_lut (target : Word) (n : Nat) : (s.goto target n).lut = s.lut := rfl
@[simp] theorem State.goto_acc (target : Word) (n : Nat) : (s.goto target n).acc = s.acc := rfl
@[simp] theorem State.goto_paused (target : Word) (n : Nat) : (s.goto target n).paused = s.paused := rfl
@[simp] theorem State.goto_saves (target : Word) (n : Nat) : (s.goto target n).saves = s.saves := rfl
@[simp] theorem State.goto_shutdown (target : Word) (n : Nat) : (s.goto target n).shutdown = s.shutdown := rfl
@[simp] theorem State.goto_schedule (target : Word) (n : Nat) : (s.goto target n).schedule = s.schedule := rfl
@[simp] theorem State.goto_mode (target : Word) (n : Nat) : (s.goto target n).mode = s.mode := rfl
@[simp] theorem State.goto_scheme (target : Word) (n : Nat) : (s.goto target n).scheme = s.scheme := rfl
@[simp] theorem State.goto_throttled (target : Word) (n : Nat) : (s.goto target n).throttled = s.throttled := rfl

@[simp] theorem State.advance_a (k n : Nat) : (s.advance k n).a = s.a := rfl
@[simp] theorem State.advance_b (k n : Nat) : (s.advance k n).b = s.b := rfl
@[simp] theorem State.advance_c (k n : Nat) : (s.advance k n).c = s.c := rfl
@[simp] theorem State.advance_d (k n : Nat) : (s.advance k n).d = s.d := rfl
@[simp] theorem State.advance_e (k n : Nat) : (s.advance k n).e = s.e := rfl
@[simp] theorem State.advance_h (k n : Nat) : (s.advance k n).h = s.h := rfl
@[simp] theorem State.advance_l (k n : Nat) : (s.advance k n).l = s.l := rfl
@[simp] theorem State.advance_flags (k n : Nat) : (s.advance k n).flags = s.flags := rfl
@[simp] theorem State.advance_sp (k n : Nat) : (s.advance k n).sp = s.sp := rfl
@[simp] theorem State.advance_pc (k n : Nat) : (s.advance k n).pc = s.pc + BitVec.ofNat 16 k := rfl
@[simp] theorem State.advance_cyc (k n : Nat) : (s.advance k n).cyc = s.cyc + BitVec.ofNat 64 n := rfl
@[simp] theorem State.advance_ie (k n : Nat) : (s.advance k n).ie = s.ie := rfl
@[simp] theorem State.advance_running (k n : Nat) : (s.advance k n).running = s.running := rfl
@[simp] theorem State.advance_mem (k n : Nat) : (s.advance k n).mem = s.mem := rfl
@[simp] theorem State.advance_sr (k n : Nat) : (s.advance k n).sr = s.sr := rfl
@[simp] theorem State.advance_so (k n : Nat) : (s.advance k n).so = s.so := rfl
@[simp] theorem State.advance_ioPorts (k n : Nat) : (s.advance k n).ioPorts = s.ioPorts := rfl
@[simp] theorem State.advance_outStream (k n : Nat) : (s.advance k n).outStream = s.outStream := rfl
@[simp] theorem State.advance_soundEvents (k n : Nat) : (s.advance k n).soundEvents = s.soundEvents := rfl
@[simp] theorem State.advance_loops (k n : Nat) : (s.advance k n).loops = s.loops := rfl
@[simp] theorem State.advance_startY (k n : Nat) : (s.advance k n).startY = s.startY := rfl
@[simp] theorem State.advance_fb (k n : Nat) : (s.advance k n).fb = s.fb := rfl
@[simp] theorem State.advance_lut (k n : Nat) : (s.advance k n).lut = s.lut := rfl
@[simp] theorem State.advance_acc (k n : Nat) : (s.advance k n).acc = s.acc := rfl
@[simp] theorem State.advance_paused (k n : Nat) : (s.advance k n).paused = s.paused := rfl
@[simp] theorem State.advance_saves (k n : Nat) : (s.advance k n).saves = s.saves := rfl
@[simp] theorem State.advance_shutdown (k n : Nat) : (s.advance k n).shutdown = s.shutdown := rfl
@[simp] theorem State.advance_schedule (k n : Nat) : (s.advance k n).schedule = s.schedule := rfl
@[simp] theorem State.advance_mode (k n : Nat) : (s.advance k n).mode = s.mode := rfl
@[simp] theorem State.advance_scheme (k n : Nat) : (s.advance k n).scheme = s.scheme := rfl
@[simp] theorem State.advance_throttled (k n : Nat) : (s.advance k n).throttled = s.throttled := rfl

@[simp] theorem State.returnPopped_a (n : Nat) : (s.returnPopped n).a = s.a := rfl
@[simp] theorem State.returnPopped_b (n : Nat) : (s.returnPopped n).b = s.b := rfl
@[simp] theorem State.returnPopped_c (n : Nat) : (s.returnPopped n).c = s.c := rfl
@[simp] theorem State.returnPopped_d (n : Nat) : (s.returnPopped n).d = s.d := rfl
@[simp] theorem State.returnPopped_e (n : Nat) : (s.returnPopped n).e = s.e := rfl
@[simp] theorem State.returnPopped_h (n : Nat) : (s.returnPopped n).h = s.h := rfl
@[simp] theorem State.returnPopped_l (n : Nat) : (s.returnPopped n).l = s.l := rfl
@[simp] theorem State.returnPopped_flags (n : Nat) : (s.returnPopped n).flags = s.flags := rfl
@[simp] theorem State.returnPopped_sp (n : Nat) : (s.returnPopped n).sp = s.sp + 2 := rfl
@[simp] theorem State.returnPopped_pc (n : Nat) : (s.returnPopped n).pc = s.top16 := rfl
@[simp] theorem State.returnPopped_cyc (n : Nat) : (s.returnPopped n).cyc = s.cyc + BitVec.ofNat 64 n := rfl
@[simp] theorem State.returnPopped_ie (n : Nat) : (s.returnPopped n).ie = s.ie := rfl
@[simp] theorem State.returnPopped_running (n : Nat) : (s.returnPopped n).running = s.running := rfl
@[simp] theorem State.returnPopped_mem (n : Nat) : (s.returnPopped n).mem = s.mem := rfl
@[simp] theorem State.returnPopped_sr (n : Nat) : (s.returnPopped n).sr = s.sr := rfl
@[simp] theorem State.returnPopped_so (n : Nat) : (s.returnPopped n).so = s.so := rfl
@[simp] theorem State.returnPopped_ioPorts (n : Nat) : (s.returnPopped n).ioPorts = s.ioPorts := rfl
@[simp] theorem State.returnPopped_outStream (n : Nat) : (s.returnPopped n).outStream = s.outStream := rfl
@[simp] theorem State.returnPopped_soundEvents (n : Nat) : (s.returnPopped n).soundEvents = s.soundEvents := rfl
@[simp] theorem State.returnPopped_loops (n : Nat) : (s.returnPopped n).loops = s.loops := rfl
@[simp] theorem State.returnPopped_startY (n : Nat) : (s.returnPopped n).startY = s.startY := rfl
@[simp] theorem State.returnPopped_fb (n : Nat) : (s.returnPopped n).fb = s.fb := rfl
@[simp] theorem State.returnPopped_lut (n : Nat) : (s.returnPopped n).lut = s.lut := rfl
@[simp] theorem State.returnPopped_acc (n : Nat) : (s.returnPopped n).acc = s.acc := rfl
@[simp] theorem State.returnPopped_paused (n : Nat) : (s.returnPopped n).paused = s.paused := rfl
@[simp] theorem State.returnPopped_saves (n : Nat) : (s.returnPopped n).saves = s.saves := rfl
@[simp] theorem State.returnPopped_shutdown (n : Nat) : (s.returnPopped n).shutdown = s.shutdown := rfl
@[simp] theorem State.returnPopped_schedule (n : Nat) : (s.returnPopped n).schedule = s.schedule := rfl
@[simp] theorem State.returnPopped_mode (n : Nat) : (s.returnPopped n).mode = s.mode := rfl
@[simp] theorem State.returnPopped_scheme (n : Nat) : (s.returnPopped n).scheme = s.scheme := rfl
@[simp] theorem State.returnPopped_throttled (n : Nat) : (s.returnPopped n).throttled = s.throttled := rfl

@[simp] theorem State.stop_a : (s.stop).a = s.a := rfl
@[simp] theorem State.stop_b : (s.stop).b = s.b := rfl
@[simp] theorem State.stop_c : (s.stop).c = s.c := rfl
@[simp] theorem State.stop_d : (s.stop).d = s.d := rfl
@[simp] theorem State.stop_e : (s.stop).e = s.e := rfl
@[simp] theorem State.stop_h : (s.stop).h = s.h := rfl
@[simp] theorem State.stop_l : (s.stop).l = s.l := rfl
@[simp] theorem State.stop_flags : (s.stop).flags = s.flags := rfl
@[simp] theorem State.stop_sp : (s.stop).sp = s.sp := rfl
@[simp] theorem State.stop_pc : (s.stop).pc = s.pc := rfl
@[simp] theorem State.stop_cyc : (s.stop).cyc = s.cyc := rfl
@[simp] theorem State.stop_ie : (s.stop).ie = s.ie := rfl
@[simp] theorem State.stop_running : (s.stop).running = false := rfl
@[simp] theorem State.stop_mem : (s.stop).mem = s.mem := rfl
@[simp] theorem State.stop_sr : (s.stop).sr = s.sr := rfl
@[simp] theorem State.stop_so : (s.stop).so = s.so := rfl
@[simp] theorem State.stop_ioPorts : (s.stop).ioPorts = s.ioPorts := rfl
@[simp] theorem State.stop_outStream : (s.stop).outStream = s.outStream := rfl
@[simp] theorem State.stop_soundEvents : (s.stop).soundEvents = s.soundEvents := rfl
@[simp] theorem State.stop_loops : (s.stop).loops = s.loops := rfl
@[simp] theorem State.stop_startY : (s.stop).startY = s.startY := rfl
@[simp] theorem State.stop_fb : (s.stop).fb = s.fb := rfl
@[simp] theorem State.stop_lut : (s.stop).lut = s.lut := rfl
@[simp] theorem State.stop_acc : (s.stop).acc = s.acc := rfl
@[simp] theorem State.stop_paused : (s.stop).paused = s.paused := rfl
@[simp] theorem State.stop_saves : (s.stop).saves = s.saves := rfl
@[simp] theorem State.stop_shutdown : (s.stop).shutdown = s.shutdown := rfl
@[simp] theorem State.stop_schedule : (s.stop).schedule = s.schedule := rfl
@[simp] theorem State.stop_mode : (s.stop).mode = s.mode := rfl
@[simp] theorem State.stop_scheme : (s.stop).scheme = s.scheme := rfl
@[simp] theorem State.stop_throttled : (s.stop).throttled = s.throttled := rfl

@[simp] theorem State.alu_a (op : AluOp) (v : Byte) : (s.alu op v).a = aluA op s.a (aluF op s.a v s.flags).1 := rfl
@[simp] theorem State.alu_b (op : AluOp) (v : Byte) : (s.alu op v).b = s.b := rfl
@[simp] theorem State.alu_c (op : AluOp) (v : Byte) : (s.alu op v).c = s.c := rfl
@[simp] theorem State.alu_d (op : AluOp) (v : Byte) : (s.alu op v).d = s.d := rfl
@[simp] theorem State.alu_e (op : AluOp) (v : Byte) : (s.alu op v).e = s.e := rfl
@[simp] theorem State.alu_h (op : AluOp) (v : Byte) : (s.alu op v).h = s.h := rfl
@[simp] theorem State.alu_l (op : AluOp) (v : Byte) : (s.alu op v).l = s.l := rfl
@[simp] theorem State.alu_flags (op : AluOp) (v : Byte) : (s.alu op v).flags = (aluF op s.a v s.flags).2 := rfl
@[simp] theorem State.alu_sp (op : AluOp) (v : Byte) : (s.alu op v).sp = s.sp := rfl
@[simp] theorem State.alu_pc (op : AluOp) (v : Byte) : (s.alu op v).pc = s.pc := rfl
@[simp] theorem State.alu_cyc (op : AluOp) (v : Byte) : (s.alu op v).cyc = s.cyc := rfl
@[simp] theorem State.alu_ie (op : AluOp) (v : Byte) : (s.alu op v).ie = s.ie := rfl
@[simp] theorem State.alu_running (op : AluOp) (v : Byte) : (s.alu op v).running = s.running := rfl
@[simp] theorem State.alu_mem (op : AluOp) (v : Byte) : (s.alu op v).mem = s.mem := rfl
@[simp] theorem State.alu_sr (op : AluOp) (v : Byte) : (s.alu op v).sr = s.sr := rfl
@[simp] theorem State.alu_so (op : AluOp) (v : Byte) : (s.alu op v).so = s.so := rfl
@[simp] theorem State.alu_ioPorts (op : AluOp) (v : Byte) : (s.alu op v).ioPorts = s.ioPorts := rfl
@[simp] theorem State.alu_outStream (op : AluOp) (v : Byte) : (s.alu op v).outStream = s.outStream := rfl
@[simp] theorem State.alu_soundEvents (op : AluOp) (v : Byte) : (s.alu op v).soundEvents = s.soundEvents := rfl
@[simp] theorem State.alu_loops (op : AluOp) (v : Byte) : (s.alu op v).loops = s.loops := rfl
@[simp] theorem State.alu_startY (op : AluOp) (v : Byte) : (s.alu op v).startY = s.startY := rfl
@[simp] theorem State.alu_fb (op : AluOp) (v : Byte) : (s.alu op v).fb = s.fb := rfl
@[simp] theorem State.alu_lut (op : AluOp) (v : Byte) : (s.alu op v).lut = s.lut := rfl
@[simp] theorem State.alu_acc (op : AluOp) (v : Byte) : (s.alu op v).acc = s.acc := rfl
@[simp] theorem State.alu_paused (op : AluOp) (v : Byte) : (s.alu op v).paused = s.paused := rfl
@[simp] theorem State.alu_saves (op : AluOp) (v : Byte) : (s.alu op v).saves = s.saves := rfl
@[simp] theorem State.alu_shutdown (op : AluOp) (v : Byte) : (s.alu op v).shutdown = s.shutdown := rfl
@[simp] theorem State.alu_schedule (op : AluOp) (v : Byte) : (s.alu op v).schedule = s.schedule := rfl
@[simp] theorem State.alu_mode (op : AluOp) (v : Byte) : (s.alu op v).mode = s.mode := rfl
@[simp] theorem State.alu_scheme (op : AluOp) (v : Byte) : (s.alu op v).scheme = s.scheme := rfl
@[simp] theorem State.alu_throttled (op : AluOp) (v : Byte) : (s.alu op v).throttled = s.throttled := rfl

@[simp] theorem State.emit_a (events : List SoundEvent) : (s.emit events).a = s.a := rfl
@[simp] theorem State.emit_b (events : List SoundEvent) : (s.emit events).b = s.b := rfl
@[simp] theorem State.emit_c (events : List SoundEvent) : (s.emit events).c = s.c := rfl
@[simp] theorem State.emit_d (events : List SoundEvent) : (s.emit events).d = s.d := rfl
@[simp] theorem State.emit_e (events : List SoundEvent) : (s.emit events).e = s.e := rfl
@[simp] theorem State.emit_h (events : List SoundEvent) : (s.emit events).h = s.h := rfl
@[simp] theorem State.emit_l (events : List SoundEvent) : (s.emit events).l = s.l := rfl
@[simp] theorem State.emit_flags (events : List SoundEvent) : (s.emit events).flags = s.flags := rfl
@[simp] theorem State.emit_sp (events : List SoundEvent) : (s.emit events).sp = s.sp := rfl
@[simp] theorem State.emit_pc (events : List SoundEvent) : (s.emit events).pc = s.pc := rfl
@[simp] theorem State.emit_cyc (events : List SoundEvent) : (s.emit events).cyc = s.cyc := rfl
@[simp] theorem State.emit_ie (events : List SoundEvent) : (s.emit events).ie = s.ie := rfl
@[simp] theorem State.emit_running (events : List SoundEvent) : (s.emit events).running = s.running := rfl
@[simp] theorem State.emit_mem (events : List SoundEvent) : (s.emit events).mem = s.mem := rfl
@[simp] theorem State.emit_sr (events : List SoundEvent) : (s.emit events).sr = s.sr := rfl
@[simp] theorem State.emit_so (events : List SoundEvent) : (s.emit events).so = s.so := rfl
@[simp] theorem State.emit_ioPorts (events : List SoundEvent) : (s.emit events).ioPorts = s.ioPorts := rfl
@[simp] theorem State.emit_outStream (events : List SoundEvent) : (s.emit events).outStream = s.outStream := rfl
@[simp] theorem State.emit_soundEvents (events : List SoundEvent) : (s.emit events).soundEvents = s.soundEvents ++ events := rfl
@[simp] theorem State.emit_loops (events : List SoundEvent) : (s.emit events).loops = events.foldl applySound s.loops := rfl
@[simp] theorem State.emit_startY (events : List SoundEvent) : (s.emit events).startY = s.startY := rfl
@[simp] theorem State.emit_fb (events : List SoundEvent) : (s.emit events).fb = s.fb := rfl
@[simp] theorem State.emit_lut (events : List SoundEvent) : (s.emit events).lut = s.lut := rfl
@[simp] theorem State.emit_acc (events : List SoundEvent) : (s.emit events).acc = s.acc := rfl
@[simp] theorem State.emit_paused (events : List SoundEvent) : (s.emit events).paused = s.paused := rfl
@[simp] theorem State.emit_saves (events : List SoundEvent) : (s.emit events).saves = s.saves := rfl
@[simp] theorem State.emit_shutdown (events : List SoundEvent) : (s.emit events).shutdown = s.shutdown := rfl
@[simp] theorem State.emit_schedule (events : List SoundEvent) : (s.emit events).schedule = s.schedule := rfl
@[simp] theorem State.emit_mode (events : List SoundEvent) : (s.emit events).mode = s.mode := rfl
@[simp] theorem State.emit_scheme (events : List SoundEvent) : (s.emit events).scheme = s.scheme := rfl
@[simp] theorem State.emit_throttled (events : List SoundEvent) : (s.emit events).throttled = s.throttled := rfl

/-- A register is what was last written to it. -/
@[simp] theorem State.reg_setReg (r q : Reg) (v : Byte) : (s.setReg r v).reg q = if q = r then v else s.reg q := by
  cases r <;> cases q <;> rfl

@[simp] theorem State.setReg_sp_reg (q : Reg) (v : Word) : State.reg { s with sp := v } q = s.reg q := by cases q <;> rfl

@[simp] theorem State.reg_goto (q : Reg) (target : Word) (n : Nat) : (s.goto target n).reg q = s.reg q := by cases q <;> rfl

@[simp] theorem State.reg_advance (q : Reg) (k n : Nat) : (s.advance k n).reg q = s.reg q := by cases q <;> rfl

@[simp] theorem State.reg_writeByte (q : Reg) (x : Word) (v : Byte) : (s.writeByte x v).reg q = s.reg q := by cases q <;> rfl

@[simp] theorem State.reg_writeM (q : Reg) (v : Byte) : (s.writeM v).reg q = s.reg q := by cases q <;> rfl

@[simp] theorem State.reg_writeWord (q : Reg) (x v : Word) : (s.writeWord x v).reg q = s.reg q := by cases q <;> rfl

@[simp] theorem State.reg_push16 (q : Reg) (v : Word) : (s.push16 v).reg q = s.reg q := by cases q <;> rfl

@[simp] theorem State.reg_drop16 (q : Reg) : s.drop16.reg q = s.reg q := by cases q <;> rfl

@[simp] theorem State.reg_returnPopped (q : Reg) (n : Nat) : (s.returnPopped n).reg q = s.reg q := by cases q <;> rfl

@[simp] theorem State.reg_stop (q : Reg) : s.stop.reg q = s.reg q := by cases q <;> rfl

@[simp] theorem State.reg_a : s.reg .a = s.a := rfl

/-- The byte at an address depends on the memory alone. -/
theorem State.readByte_mem (x : Word) : s.readByte x = s.mem.read x := rfl

end Sys2Proof.Machine
end

