-- ==== Sys2Proof/Laws/Word.lean ====
section
/-! SUPPORT. The two bytes of a word (spec/00_scope.md R9). -/

namespace Sys2Proof

theorem Word.getLsbD_ofBytes (a b : Byte) (i : Nat) :
    (Word.ofBytes a b).getLsbD i = if i < 8 then b.getLsbD i else a.getLsbD (i - 8) := by
  unfold Word.ofBytes
  rw [BitVec.getLsbD_append]

theorem Word.getLsbD_hi (v : Word) (i : Nat) : v.hi.getLsbD i = (decide (i < 8) && v.getLsbD (8 + i)) := by
  unfold Word.hi
  rw [BitVec.getLsbD_extractLsb']

theorem Word.getLsbD_lo (v : Word) (i : Nat) : v.lo.getLsbD i = (decide (i < 8) && v.getLsbD i) := by
  unfold Word.lo
  rw [BitVec.getLsbD_extractLsb', Nat.zero_add]

@[simp] theorem Word.ofBytes_hi_lo (v : Word) : Word.ofBytes v.hi v.lo = v := by
  apply BitVec.eq_of_getLsbD_eq
  intro i hi
  rw [Word.getLsbD_ofBytes, Word.getLsbD_hi, Word.getLsbD_lo]
  by_cases h : i < 8
  · simp [h]
  · have h1 : 8 + (i - 8) = i := by omega
    have h2 : i - 8 < 8 := by omega
    simp [h, h1, h2]

@[simp] theorem Word.hi_ofBytes (a b : Byte) : (Word.ofBytes a b).hi = a := by
  apply BitVec.eq_of_getLsbD_eq
  intro i hi
  rw [Word.getLsbD_hi, Word.getLsbD_ofBytes]
  simp [hi]

@[simp] theorem Word.lo_ofBytes (a b : Byte) : (Word.ofBytes a b).lo = b := by
  apply BitVec.eq_of_getLsbD_eq
  intro i hi
  rw [Word.getLsbD_lo, Word.getLsbD_ofBytes]
  simp [hi]

theorem Word.toNat_hi (v : Word) : v.hi.toNat = v.toNat / 256 := by
  have := v.isLt
  simp [Word.hi, BitVec.extractLsb'_toNat, Nat.shiftRight_eq_div_pow]
  omega

theorem Word.toNat_lo (v : Word) : v.lo.toNat = v.toNat % 256 := by
  simp [Word.lo, BitVec.extractLsb'_toNat]

theorem Word.toNat_ofBytes (a b : Byte) : (Word.ofBytes a b).toNat = a.toNat * 256 + b.toNat := by
  have h1 := Word.toNat_hi (Word.ofBytes a b)
  have h2 := Word.toNat_lo (Word.ofBytes a b)
  rw [Word.hi_ofBytes] at h1
  rw [Word.lo_ofBytes] at h2
  omega

end Sys2Proof
end

