-- ==== Sys2Proof/Laws/Memory.lean ====
section
/-! SUPPORT. The laws of the sparse tables and of memory: a read after a write, and that every operation keeps the canonical form. -/

namespace Sys2Proof.Machine

section Cells

variable {α : Type} [DecidableEq α] (dflt : α) (bound : Nat)

omit [DecidableEq α] in
theorem cellsRead_erase (cells : List (Nat × α)) (key x : Nat) :
    cellsRead dflt (cellsErase cells key) x = if x = key then dflt else cellsRead dflt cells x := by
  induction cells with
  | nil => simp [cellsErase, cellsRead]
  | cons cell rest ih =>
    obtain ⟨k, v⟩ := cell
    unfold cellsErase at *
    by_cases hk : k = key
    · subst hk
      by_cases hx : x = k
      · subst hx; simpa [cellsRead] using ih
      · have : ¬ k = x := fun h => hx h.symm
        simpa [cellsRead, hx, this] using ih
    · by_cases hx : k = x
      · subst hx; simp [hk, cellsRead]
      · simpa [hk, cellsRead, hx] using ih

omit [DecidableEq α] in
theorem cellsRead_insert (cells : List (Nat × α)) (key x : Nat) (v : α) (h : ∀ cell ∈ cells, cell.1 ≠ key) :
    cellsRead dflt (cellsInsert cells key v) x = if x = key then v else cellsRead dflt cells x := by
  induction cells with
  | nil => simp [cellsInsert, cellsRead, eq_comm]
  | cons cell rest ih =>
    obtain ⟨k, u⟩ := cell
    have hk : k ≠ key := h (k, u) (by simp)
    have ih' := ih (fun c hc => h c (by simp [hc]))
    by_cases hlt : key < k
    · simp [cellsInsert, hlt, cellsRead, eq_comm]
    · by_cases hx : k = x
      · subst hx; simp [cellsInsert, hlt, cellsRead, hk]
      · simp [cellsInsert, hlt, cellsRead, hx, ih']

/-- A read after a write gives the value written, and every other key reads as before. -/
theorem cellsRead_write (cells : List (Nat × α)) (key x : Nat) (v : α) :
    cellsRead dflt (cellsWrite dflt cells key v) x = if x = key then v else cellsRead dflt cells x := by
  unfold cellsWrite
  split
  · next hv => rw [cellsRead_erase, hv]
  · rw [cellsRead_insert, cellsRead_erase]
    · by_cases hx : x = key <;> simp [hx]
    · intro cell hc
      simp only [cellsErase, List.mem_filter, Bool.not_eq_true', decide_eq_false_iff_not] at hc
      exact hc.2

theorem cellsWfFrom_mono (cells : List (Nat × α)) (lo lo' : Nat) (hle : lo' ≤ lo)
    (h : cellsWfFrom dflt bound lo cells = true) : cellsWfFrom dflt bound lo' cells = true := by
  cases cells with
  | nil => rfl
  | cons cell rest =>
    simp only [cellsWfFrom, Bool.and_eq_true, decide_eq_true_eq] at h ⊢
    exact ⟨⟨⟨by omega, h.1.1.2⟩, h.1.2⟩, h.2⟩

theorem cellsWfFrom_filter (p : Nat × α → Bool) (cells : List (Nat × α)) (lo : Nat)
    (h : cellsWfFrom dflt bound lo cells = true) : cellsWfFrom dflt bound lo (cells.filter p) = true := by
  induction cells generalizing lo with
  | nil => rfl
  | cons cell rest ih =>
    obtain ⟨k, v⟩ := cell
    simp only [cellsWfFrom, Bool.and_eq_true, decide_eq_true_eq] at h
    by_cases hp : p (k, v) = true
    · simp only [List.filter_cons, hp, if_true, cellsWfFrom, Bool.and_eq_true, decide_eq_true_eq]
      exact ⟨h.1, ih _ h.2⟩
    · simp only [List.filter_cons, hp, Bool.false_eq_true, if_false]
      exact cellsWfFrom_mono dflt bound _ _ _ (by omega) (ih _ h.2)

theorem cellsWfFrom_insert (cells : List (Nat × α)) (lo key : Nat) (v : α) (hlo : lo ≤ key) (hb : key < bound) (hv : v ≠ dflt)
    (hk : ∀ cell ∈ cells, cell.1 ≠ key) (h : cellsWfFrom dflt bound lo cells = true) :
    cellsWfFrom dflt bound lo (cellsInsert cells key v) = true := by
  induction cells generalizing lo with
  | nil => simp [cellsInsert, cellsWfFrom, hlo, hb, hv]
  | cons cell rest ih =>
    obtain ⟨k, u⟩ := cell
    have hne : k ≠ key := hk (k, u) (by simp)
    simp only [cellsWfFrom, Bool.and_eq_true, decide_eq_true_eq] at h
    by_cases hlt : key < k
    · simp only [cellsInsert, hlt, if_true, cellsWfFrom, Bool.and_eq_true, decide_eq_true_eq]
      exact ⟨⟨⟨hlo, hb⟩, by simp [hv]⟩, ⟨⟨by omega, h.1.1.2⟩, h.1.2⟩, h.2⟩
    · simp only [cellsInsert, hlt, if_false, cellsWfFrom, Bool.and_eq_true, decide_eq_true_eq]
      exact ⟨h.1, ih _ (by omega) (fun c hc => hk c (by simp [hc])) h.2⟩

theorem cellsWf_write (cells : List (Nat × α)) (key : Nat) (v : α) (hb : key < bound) (h : cellsWf dflt bound cells = true) :
    cellsWf dflt bound (cellsWrite dflt cells key v) = true := by
  unfold cellsWrite
  split
  · exact cellsWfFrom_filter dflt bound _ _ _ h
  · next hv =>
    refine cellsWfFrom_insert dflt bound _ _ _ _ (Nat.zero_le _) hb hv ?_ (cellsWfFrom_filter dflt bound _ _ _ h)
    intro cell hc
    simp only [cellsErase, List.mem_filter, Bool.not_eq_true', decide_eq_false_iff_not] at hc
    exact hc.2

end Cells

/-! ### Memory -/

theorem Memory.read_write (m : Memory) (addr x : Word) (v : Byte) :
    Memory.read (Memory.write m addr v) x = if x = addr then v else Memory.read m x := by
  simp only [Memory.read, Memory.write, cellsRead_write]
  congr 1
  simp [BitVec.toNat_inj]

theorem Memory.wf_write (m : Memory) (addr : Word) (v : Byte) (h : Memory.wf m = true) : Memory.wf (Memory.write m addr v) = true :=
  cellsWf_write _ _ _ _ _ addr.isLt h

theorem Memory.wf_nil : Memory.wf [] = true := rfl

theorem Memory.wf_writeBytes (m : Memory) (addr : Word) (bytes : List Byte) (h : Memory.wf m = true) :
    Memory.wf (Memory.writeBytes m addr bytes) = true := by
  induction bytes generalizing m addr with
  | nil => exact h
  | cons v rest ih => exact ih _ _ (Memory.wf_write m addr v h)

theorem State.wf_writeByte (s : State) (x : Word) (v : Byte) (h : s.mem.wf = true) : (s.writeByte x v).mem.wf = true :=
  Memory.wf_write _ _ _ h

theorem State.wf_writeWord (s : State) (x v : Word) (h : s.mem.wf = true) : (s.writeWord x v).mem.wf = true :=
  Memory.wf_write _ _ _ (Memory.wf_write _ _ _ h)

theorem State.wf_push16 (s : State) (v : Word) (h : s.mem.wf = true) : (s.push16 v).mem.wf = true :=
  State.wf_writeWord s _ v h

theorem State.wf_requestInterrupt (s : State) (n : BitVec 3) (h : s.mem.wf = true) : (requestInterrupt n s).mem.wf = true := by
  unfold requestInterrupt
  split
  · exact State.wf_push16 s s.pc h
  · exact h

/-! ### Reads after the updates that write memory -/

variable (s : State)

@[simp] theorem State.readByte_writeByte (addr x : Word) (v : Byte) :
    (s.writeByte addr v).readByte x = if x = addr then v else s.readByte x :=
  Memory.read_write _ _ _ _

@[simp] theorem State.readByte_writeWord (addr v x : Word) :
    (s.writeWord addr v).readByte x = if x = addr + 1 then v.hi else if x = addr then v.lo else s.readByte x := by
  simp [State.writeWord]

@[simp] theorem State.readByte_push16 (v x : Word) :
    (s.push16 v).readByte x = if x = s.sp - 1 then v.hi else if x = s.sp - 2 then v.lo else s.readByte x := by
  have h : s.sp - 2 + 1 = s.sp - 1 := by bv_omega
  have := State.readByte_writeWord s (s.sp - 2) v x
  rw [h] at this
  exact this

@[simp] theorem State.readByte_writeM (v : Byte) (x : Word) :
    (s.writeM v).readByte x = if x = s.hl then v else s.readByte x :=
  State.readByte_writeByte s _ _ _

@[simp] theorem State.readByte_goto (target x : Word) (n : Nat) : (s.goto target n).readByte x = s.readByte x := rfl

@[simp] theorem State.readByte_advance (k n : Nat) (x : Word) : (s.advance k n).readByte x = s.readByte x := rfl

@[simp] theorem State.readByte_setReg (r : Reg) (v : Byte) (x : Word) : (s.setReg r v).readByte x = s.readByte x := by
  cases r <;> rfl

@[simp] theorem State.readByte_setHl (v x : Word) : (s.setHl v).readByte x = s.readByte x := rfl

@[simp] theorem State.readByte_setPair (p : Pair) (v x : Word) : (s.setPair p v).readByte x = s.readByte x := by
  cases p <;> rfl

@[simp] theorem State.readByte_setStackPair (p : StackPair) (v x : Word) : (s.setStackPair p v).readByte x = s.readByte x := by
  cases p <;> rfl

@[simp] theorem State.readByte_drop16 (x : Word) : s.drop16.readByte x = s.readByte x := rfl

/-- A word read after it was written is the word (20_memory.md R65). -/
theorem State.readWord_writeWord (addr v : Word) : (s.writeWord addr v).readWord addr = v := by
  have hne : ¬ addr = addr + 1 := by bv_omega
  simp only [State.readWord, State.readByte_writeWord, if_true, hne, if_false]
  exact Word.ofBytes_hi_lo v

end Sys2Proof.Machine
end

