-- ==== Sys2Proof/Laws/Frames.lean ====
section
/-! SUPPORT. What each shared operation leaves as it was: one lemma per operation, in the terms of Sys2Proof/Safety.lean. -/

namespace Sys2Proof.Machine

variable (s : State)

theorem SameBut.refl (written : List Reg) : SameBut written s s :=
  ⟨fun _ _ => rfl, rfl, rfl, ⟨rfl, rfl, rfl, rfl, rfl, rfl⟩, ⟨rfl, rfl, rfl, rfl, rfl, rfl, rfl, rfl, rfl, rfl, rfl⟩⟩

/-- The end of an instruction changes PC and CYC only. -/
theorem sameBut_goto (written : List Reg) (t : State) (target : Word) (n : Nat) (h : SameBut written s t) :
    SameBut written s (t.goto target n) :=
  ⟨fun r hr => by rw [← h.regs r hr]; cases r <;> rfl, h.ie, h.running,
    ⟨h.ports.sr, h.ports.so, h.ports.ioPorts, h.ports.outStream, h.ports.soundEvents, h.ports.loops⟩,
    ⟨h.outside.startY, h.outside.fb, h.outside.lut, h.outside.acc, h.outside.paused, h.outside.saves, h.outside.shutdown,
      h.outside.schedule, h.outside.mode, h.outside.scheme, h.outside.throttled⟩⟩

theorem sameBut_advance (written : List Reg) (t : State) (k n : Nat) (h : SameBut written s t) :
    SameBut written s (t.advance k n) :=
  sameBut_goto s written t _ n h

theorem endsAfter_advance (t : State) (k n : Nat) (hp : t.pc = s.pc) (hc : t.cyc = s.cyc) : EndsAfter k n s (t.advance k n) := by
  simp [EndsAfter, hp, hc]

theorem wentTo_goto (t : State) (target : Word) (n : Nat) (hc : t.cyc = s.cyc) : WentTo target n s (t.goto target n) := by
  simp [WentTo, hc]

/-- A store to one byte. -/
theorem sameBut_writeByte (addr : Word) (v : Byte) : SameBut [] s (s.writeByte addr v) :=
  ⟨fun r _ => by cases r <;> simp [State.reg], by simp, by simp, ⟨by simp, by simp, by simp, by simp, by simp, by simp⟩,
    ⟨by simp, by simp, by simp, by simp, by simp, by simp, by simp, by simp, by simp, by simp, by simp⟩⟩

theorem onlyStores_writeByte (addr : Word) (v : Byte) : OnlyStores [addr] s (s.writeByte addr v) := by
  refine ⟨sameBut_writeByte s addr v, by simp, by simp, fun x hx => ?_⟩
  simp only [List.mem_singleton] at hx
  simp [hx]

theorem onlyStores_writeWord (addr v : Word) : OnlyStores [addr, addr + 1] s (s.writeWord addr v) := by
  refine ⟨⟨fun r _ => by cases r <;> simp [State.reg], by simp, by simp, ⟨by simp, by simp, by simp, by simp, by simp, by simp⟩,
    ⟨by simp, by simp, by simp, by simp, by simp, by simp, by simp, by simp, by simp, by simp, by simp⟩⟩, by simp, by simp, fun x hx => ?_⟩
  simp only [List.mem_cons, List.not_mem_nil, or_false, not_or] at hx
  rw [State.readByte_writeWord, if_neg hx.2, if_neg hx.1]

theorem onlyStores_goto (t : State) (stored : List Word) (target : Word) (n : Nat) (h : OnlyStores stored s t) :
    OnlyStores stored s (t.goto target n) :=
  ⟨sameBut_goto s [] t target n h.1, by simp [h.2.1], by simp [h.2.2.1], fun x hx => by rw [← h.2.2.2 x hx]; rfl⟩

/-- `PUSH16` (44_stack_control.md R230). -/
theorem sameBut_push16 (v : Word) : SameBut [] s (s.push16 v) :=
  ⟨fun r _ => by cases r <;> simp [State.reg], by simp, by simp, ⟨by simp, by simp, by simp, by simp, by simp, by simp⟩,
    ⟨by simp, by simp, by simp, by simp, by simp, by simp, by simp, by simp, by simp, by simp, by simp⟩⟩

theorem sameMemBut_push16 (v : Word) : SameMemBut [s.sp - 2, s.sp - 1] s (s.push16 v) := by
  intro x hx
  simp only [List.mem_cons, List.not_mem_nil, or_false, not_or] at hx
  rw [State.readByte_push16, if_neg hx.2, if_neg hx.1]

/-- `PUSH16` and the end of the instruction. -/
theorem pushed_goto (v target : Word) (n : Nat) : Pushed v s ((s.push16 v).goto target n) := by
  refine ⟨by simp, ?_, ?_, sameBut_goto s [] _ target n (sameBut_push16 s v), by simp, ?_⟩
  · have hne : ¬ s.sp - 2 = s.sp - 1 := by bv_omega
    simp only [State.readByte_goto, State.readByte_push16, hne, if_false, if_true]
  · simp
  · exact fun x hx => by rw [State.readByte_goto]; exact sameMemBut_push16 s v x hx

/-- `RequestInterrupt` with IE = 1 (60_exceptions.md R311). -/
theorem requestInterrupt_enabled (n : BitVec 3) (h : s.ie = true) :
    requestInterrupt n s = { s.push16 s.pc with ie := false, pc := restartVector n } := by
  simp [requestInterrupt, h]

/-- `RequestInterrupt` with IE = 0. -/
theorem requestInterrupt_disabled (n : BitVec 3) (h : s.ie = false) : requestInterrupt n s = s := by
  simp [requestInterrupt, h]

theorem restartVector_eq (n : BitVec 3) : restartVector n = BitVec.ofNat 16 (8 * n.toNat) := by
  have h : ∀ n : BitVec 3, restartVector n = BitVec.ofNat 16 (8 * n.toNat) := by decide
  exact h n

/-- A write to one byte register. -/
theorem sameBut_setReg (r : Reg) (v : Byte) : SameBut [r] s (s.setReg r v) :=
  ⟨fun q hq => by cases r <;> cases q <;> first | rfl | exact absurd hq (by decide), by simp, by simp,
    ⟨by simp, by simp, by simp, by simp, by simp, by simp⟩,
    ⟨by simp, by simp, by simp, by simp, by simp, by simp, by simp, by simp, by simp, by simp, by simp⟩⟩

theorem reg_setReg (r : Reg) (v : Byte) : (s.setReg r v).reg r = v := by cases r <;> rfl

/-- A write to a pair. -/
theorem sameBut_setPair (p : Pair) (v : Word) : SameBut p.regs s (s.setPair p v) := by
  cases p <;> exact ⟨fun q hq => by cases q <;> first | rfl | exact absurd hq (by decide), rfl, rfl,
    ⟨rfl, rfl, rfl, rfl, rfl, rfl⟩, ⟨rfl, rfl, rfl, rfl, rfl, rfl, rfl, rfl, rfl, rfl, rfl⟩⟩

theorem pair_setPair (p : Pair) (v : Word) : (s.setPair p v).pair p = v := by
  cases p <;> first | rfl | exact Word.ofBytes_hi_lo v

theorem setPair_sp_of_ne (p : Pair) (v : Word) (h : p ≠ .sp) : (s.setPair p v).sp = s.sp := by
  cases p <;> first | rfl | exact absurd rfl h

theorem sameBut_setStackPair (p : StackPair) (v : Word) : SameBut [p.high, p.low] s (s.setStackPair p v) := by
  cases p <;> exact ⟨fun q hq => by cases q <;> first | rfl | exact absurd hq (by decide), rfl, rfl,
    ⟨rfl, rfl, rfl, rfl, rfl, rfl⟩, ⟨rfl, rfl, rfl, rfl, rfl, rfl, rfl, rfl, rfl, rfl, rfl⟩⟩

/-- An ALU operation writes A and the flags. -/
theorem sameBut_alu (op : AluOp) (v : Byte) : SameBut [.a] s (s.alu op v) :=
  ⟨fun q hq => by cases q <;> first | rfl | exact absurd hq (by decide), rfl, rfl,
    ⟨rfl, rfl, rfl, rfl, rfl, rfl⟩, ⟨rfl, rfl, rfl, rfl, rfl, rfl, rfl, rfl, rfl, rfl, rfl⟩⟩

/-- What exec does with an ALU operation, whatever the form of its operand. -/
theorem exec_aluSource (op : AluOp) (src : AluSource) :
    exec (src.instr op) s = .next ((s.alu op (src.value s)).advance src.length src.cycles) := by
  cases src with
  | reg r => exact exec_aluReg s op r
  | m => exact exec_aluM s op
  | imm n => exact exec_aluImm s op n

end Sys2Proof.Machine
end

