-- ==== Sys2Proof/Laws/Video.lean ====
section
/-! SUPPORT. The laws of the screen (spec/60_exceptions.md R320 to R326): reading a rendered range, and its canonical form. -/

namespace Sys2Proof.Machine

section Cells

variable {α : Type} (dflt : α)

theorem cellsRead_append (l r : List (Nat × α)) (x : Nat) (h : ∀ cell ∈ l, cell.1 ≠ x) : cellsRead dflt (l ++ r) x = cellsRead dflt r x := by
  induction l with
  | nil => rfl
  | cons cell rest ih =>
    obtain ⟨k, v⟩ := cell
    have hk : k ≠ x := h (k, v) (by simp)
    rw [List.cons_append, cellsRead, if_neg hk]
    exact ih (fun c hc => h c (by simp [hc]))

theorem cellsRead_append_left (l r : List (Nat × α)) (x : Nat) (h : ∀ cell ∈ r, cell.1 ≠ x) : cellsRead dflt (l ++ r) x = cellsRead dflt l x := by
  induction l with
  | nil =>
    have hr := cellsRead_append dflt r [] x h
    rw [List.append_nil] at hr
    exact hr
  | cons cell rest ih =>
    obtain ⟨k, v⟩ := cell
    by_cases hk : k = x
    · rw [List.cons_append, cellsRead, cellsRead, if_pos hk, if_pos hk]
    · rw [List.cons_append, cellsRead, cellsRead, if_neg hk, if_neg hk, ih]

theorem cellsRead_filter (p : Nat → Bool) (cells : List (Nat × α)) (x : Nat) :
    cellsRead dflt (cells.filter (fun cell => p cell.1)) x = if p x then cellsRead dflt cells x else dflt := by
  induction cells with
  | nil => simp [cellsRead]
  | cons cell rest ih =>
    obtain ⟨k, v⟩ := cell
    rw [List.filter_cons]
    by_cases hp : p k = true
    · rw [if_pos hp, cellsRead, cellsRead, ih]
      by_cases hk : k = x
      · subst hk; simp [hp]
      · simp [hk]
    · rw [if_neg hp, ih]
      by_cases hk : k = x
      · subst hk; simp [hp]
      · simp [cellsRead, hk]

variable [DecidableEq α] (bound : Nat)

theorem cellsWfFrom_append (l r : List (Nat × α)) (lo mid : Nat) (hle : lo ≤ mid) (hl : cellsWfFrom dflt bound lo l = true)
    (hlt : ∀ cell ∈ l, cell.1 < mid) (hr : cellsWfFrom dflt bound mid r = true) : cellsWfFrom dflt bound lo (l ++ r) = true := by
  induction l generalizing lo with
  | nil => exact cellsWfFrom_mono dflt bound r mid lo hle hr
  | cons cell rest ih =>
    obtain ⟨k, v⟩ := cell
    have hk : k < mid := hlt (k, v) (by simp)
    simp only [cellsWfFrom, Bool.and_eq_true, decide_eq_true_eq] at hl
    simp only [List.cons_append, cellsWfFrom, Bool.and_eq_true, decide_eq_true_eq]
    exact ⟨hl.1, ih (k + 1) hk hl.2 (fun c hc => hlt c (by simp [hc]))⟩

theorem cellsWfFrom_of_le (cells : List (Nat × α)) (lo lo' : Nat) (hall : ∀ cell ∈ cells, lo' ≤ cell.1)
    (h : cellsWfFrom dflt bound lo cells = true) : cellsWfFrom dflt bound lo' cells = true := by
  cases cells with
  | nil => rfl
  | cons cell rest =>
    obtain ⟨k, v⟩ := cell
    simp only [cellsWfFrom, Bool.and_eq_true, decide_eq_true_eq] at h ⊢
    exact ⟨⟨⟨hall (k, v) (by simp), h.1.1.2⟩, h.1.2⟩, h.2⟩

end Cells

/-! ### Rendered ranges -/

/-- One pixel of a rendered range. -/
def renderCell (dflt : Pixel) (f : Nat → Nat → Pixel) (n : Nat) : Option (Nat × Pixel) :=
  if f (n % Config.width) (n / Config.width) = dflt then none else some (n, f (n % Config.width) (n / Config.width))

theorem renderRange_eq (dflt : Pixel) (f : Nat → Nat → Pixel) (start count : Nat) :
    renderRange dflt f start count = (List.range count).filterMap (fun k => renderCell dflt f (start + k)) := rfl

theorem renderRange_succ (dflt : Pixel) (f : Nat → Nat → Pixel) (start count : Nat) :
    renderRange dflt f start (count + 1) = (renderCell dflt f start).toList ++ renderRange dflt f (start + 1) count := by
  have hc : ∀ k : Nat, start + 1 + k = start + (k + 1) := by intro k; omega
  rw [renderRange_eq, renderRange_eq, List.range_succ_eq_map, List.filterMap_cons, List.filterMap_map]
  simp only [Nat.add_zero, Function.comp_def, hc, Nat.succ_eq_add_one]
  cases renderCell dflt f start <;> rfl

theorem renderCell_cases (dflt : Pixel) (f : Nat → Nat → Pixel) (n : Nat) :
    (renderCell dflt f n = none ∧ f (n % Config.width) (n / Config.width) = dflt) ∨
    (renderCell dflt f n = some (n, f (n % Config.width) (n / Config.width)) ∧ f (n % Config.width) (n / Config.width) ≠ dflt) := by
  unfold renderCell
  split
  · next h => exact .inl ⟨rfl, h⟩
  · next h => exact .inr ⟨rfl, h⟩

theorem renderRange_mem (dflt : Pixel) (f : Nat → Nat → Pixel) (start count : Nat) :
    ∀ cell ∈ renderRange dflt f start count, start ≤ cell.1 ∧ cell.1 < start + count := by
  intro cell hc
  rw [renderRange_eq, List.mem_filterMap] at hc
  obtain ⟨k, hk, he⟩ := hc
  rw [List.mem_range] at hk
  rcases renderCell_cases dflt f (start + k) with ⟨h, _⟩ | ⟨h, _⟩
  · rw [h] at he; cases he
  · rw [h] at he
    cases he
    exact ⟨Nat.le_add_right _ _, Nat.add_lt_add_left hk _⟩

/-- Reading a rendered range: the word of the function inside it, the default outside. -/
theorem cellsRead_renderRange (dflt : Pixel) (f : Nat → Nat → Pixel) (start count n : Nat) :
    cellsRead dflt (renderRange dflt f start count) n =
      if start ≤ n ∧ n < start + count then f (n % Config.width) (n / Config.width) else dflt := by
  induction count generalizing start with
  | zero =>
    have h : ¬ (start ≤ n ∧ n < start + 0) := by omega
    rw [if_neg h]
    rfl
  | succ count ih =>
    rw [renderRange_succ]
    rcases renderCell_cases dflt f start with ⟨h, hd⟩ | ⟨h, hd⟩
    · rw [h, Option.toList_none, List.nil_append, ih]
      by_cases hs : n = start
      · subst hs
        have h1 : ¬ (n + 1 ≤ n ∧ n < n + 1 + count) := by omega
        have h2 : n ≤ n ∧ n < n + (count + 1) := by omega
        rw [if_neg h1, if_pos h2, hd]
      · have h1 : (start + 1 ≤ n ∧ n < start + 1 + count) ↔ (start ≤ n ∧ n < start + (count + 1)) := by omega
        simp only [h1]
    · rw [h, Option.toList_some, List.cons_append, List.nil_append, cellsRead, ih]
      by_cases hs : start = n
      · subst hs
        have h2 : start ≤ start ∧ start < start + (count + 1) := by omega
        rw [if_pos rfl, if_pos h2]
      · have h1 : (start + 1 ≤ n ∧ n < start + 1 + count) ↔ (start ≤ n ∧ n < start + (count + 1)) := by omega
        rw [if_neg hs]
        simp only [h1]

/-- A rendered range is in canonical form. -/
theorem wfFrom_renderRange (dflt : Pixel) (f : Nat → Nat → Pixel) (bound start count : Nat) (hb : start + count ≤ bound) :
    cellsWfFrom dflt bound start (renderRange dflt f start count) = true := by
  induction count generalizing start with
  | zero => rfl
  | succ count ih =>
    have hrest := ih (start + 1) (by omega)
    rw [renderRange_succ]
    rcases renderCell_cases dflt f start with ⟨h, _⟩ | ⟨h, hd⟩
    · rw [h, Option.toList_none, List.nil_append]
      exact cellsWfFrom_mono dflt bound _ (start + 1) start (by omega) hrest
    · rw [h, Option.toList_some, List.cons_append, List.nil_append]
      simp only [cellsWfFrom, Bool.and_eq_true, decide_eq_true_eq]
      exact ⟨⟨⟨Nat.le_refl _, by omega⟩, by simp [hd]⟩, hrest⟩

/-! ### Pixels -/

theorem pixelIndex_lt (x y : Nat) (hx : x < 224) (hy : y < 256) : pixelIndex x y < screenSize := by
  simp only [pixelIndex, screenSize, Config.width, Config.height]
  omega

theorem pixelIndex_mod (x y : Nat) (hx : x < 224) : pixelIndex x y % Config.width = x := by
  simp only [pixelIndex, Config.width]
  omega

theorem pixelIndex_div (x y : Nat) (hx : x < 224) : pixelIndex x y / Config.width = y := by
  simp only [pixelIndex, Config.width]
  omega

theorem pixelIndex_lt_half (x y : Nat) (hx : x < 224) : pixelIndex x y < halfSize ↔ y < 128 := by
  simp only [pixelIndex, halfSize, Config.width]
  omega

/-- Every entry of the LUT of a scheme (R320). -/
theorem lutOf_read (scheme : ColourScheme) (x y : Nat) (hx : x < 224) (hy : y < 256) :
    cellsRead Config.white (lutOf scheme) (pixelIndex x y) = lutEntry scheme x y := by
  have h := pixelIndex_lt x y hx hy
  have h0 : 0 ≤ pixelIndex x y ∧ pixelIndex x y < 0 + screenSize := by omega
  rw [lutOf, cellsRead_renderRange, if_pos h0, pixelIndex_mod x y hx, pixelIndex_div x y hx]

/-! ### Alpha (R326) -/

theorem alphaOf_black_or (w : Pixel) : alphaOf (Config.black ||| w) = 0xFF := by
  have h : ∀ k : Fin 8, (alphaOf (Config.black ||| w)).getLsbD k = (0xFF#8).getLsbD k := by
    intro k
    simp only [alphaOf, BitVec.getLsbD_extractLsb', BitVec.getLsbD_or]
    match k with
    | 0 | 1 | 2 | 3 | 4 | 5 | 6 | 7 => simp [Config.black]
  exact BitVec.eq_of_getLsbD_eq (fun k hk => h ⟨k, hk⟩)

theorem alphaOf_white : alphaOf Config.white = 0xFF := by decide

theorem alphaOf_opaqueColour (w : Pixel) : alphaOf (opaqueColour w) = 0xFF := alphaOf_black_or w

/-- Red, green and blue are the descriptor's. -/
theorem opaqueColour_rgb (w : Pixel) : (opaqueColour w).extractLsb' 0 24 = w.extractLsb' 0 24 := by
  refine BitVec.eq_of_getLsbD_eq (fun k hk => ?_)
  have hb : ∀ j : Fin 24, Config.black.getLsbD j = false := by decide
  have hz : Config.black.getLsbD k = false := hb ⟨k, hk⟩
  simp only [opaqueColour, BitVec.getLsbD_extractLsb', BitVec.getLsbD_or, Nat.zero_add, hz, Bool.false_or]

/-- A word is its alpha and its red, green and blue. -/
theorem pixel_ext (a b : Pixel) (h : a.extractLsb' 0 24 = b.extractLsb' 0 24) (ha : alphaOf a = alphaOf b) : a = b := by
  refine BitVec.eq_of_getLsbD_eq (fun k hk => ?_)
  by_cases hl : k < 24
  · have hk24 := congrArg (fun v => BitVec.getLsbD v k) h
    simpa [BitVec.getLsbD_extractLsb', hl] using hk24
  · have hk8 := congrArg (fun v => BitVec.getLsbD v (k - 24)) ha
    have he : 24 + (k - 24) = k := by omega
    have hlt : k - 24 < 8 := by omega
    simpa [alphaOf, BitVec.getLsbD_extractLsb', he, hlt] using hk8

theorem opaqueColour_of_opaque (w : Pixel) (h : alphaOf w = 0xFF) : opaqueColour w = w :=
  pixel_ext _ _ (opaqueColour_rgb w) ((alphaOf_opaqueColour w).trans h.symm)

/-- The overlay's colour is that of the first rectangle that covers the pixel. -/
theorem overlayColour_find (rects : List Rect) (x y : Nat) :
    overlayColour rects x y = ((rects.find? (fun r => rectCovers r x y)).map (fun r => opaqueColour r.colour)).getD Config.white := by
  induction rects with
  | nil => rfl
  | cons r rest ih =>
    rw [overlayColour, List.find?_cons]
    cases rectCovers r x y with
    | true => rfl
    | false => exact ih

theorem alphaOf_promColour (v : Byte) : alphaOf (promColour v) = 0xFF := by
  rw [promColour, BitVec.or_assoc, BitVec.or_assoc]
  exact alphaOf_black_or _

theorem alphaOf_overlayColour (rects : List Rect) (x y : Nat) : alphaOf (overlayColour rects x y) = 0xFF := by
  induction rects with
  | nil => exact alphaOf_white
  | cons r rest ih =>
    unfold overlayColour
    split
    · exact alphaOf_opaqueColour _
    · exact ih

/-- Every colour of every scheme has alpha 0xFF. -/
theorem alphaOf_lutEntry (scheme : ColourScheme) (x y : Nat) : alphaOf (lutEntry scheme x y) = 0xFF := by
  cases scheme with
  | none => exact alphaOf_white
  | overlay rects => exact alphaOf_overlayColour rects x y
  | prom bytes => exact alphaOf_promColour _

theorem alphaOf_cellsRead (dflt : Pixel) (cells : Screen) (n : Nat) (hd : alphaOf dflt = 0xFF)
    (h : ∀ cell ∈ cells, alphaOf cell.2 = 0xFF) : alphaOf (cellsRead dflt cells n) = 0xFF := by
  induction cells with
  | nil => exact hd
  | cons cell rest ih =>
    obtain ⟨k, v⟩ := cell
    rw [cellsRead]
    split
    · exact h (k, v) (by simp)
    · exact ih (fun c hc => h c (by simp [hc]))

theorem alphaOf_renderRange (dflt : Pixel) (f : Nat → Nat → Pixel) (start count : Nat) (h : ∀ x y : Nat, alphaOf (f x y) = 0xFF) :
    ∀ cell ∈ renderRange dflt f start count, alphaOf cell.2 = 0xFF := by
  intro cell hc
  rw [renderRange_eq, List.mem_filterMap] at hc
  obtain ⟨k, _, he⟩ := hc
  rcases renderCell_cases dflt f (start + k) with ⟨hn, _⟩ | ⟨hs, _⟩
  · rw [hn] at he; cases he
  · rw [hs] at he
    cases he
    exact h _ _

theorem alphaOf_lutOf (scheme : ColourScheme) : ∀ cell ∈ lutOf scheme, alphaOf cell.2 = 0xFF :=
  alphaOf_renderRange _ _ _ _ (alphaOf_lutEntry scheme)

/-- Every word a scan writes has alpha 0xFF where the LUT is a scheme's, and it keeps the other half's words. -/
theorem alphaOf_scan (s : State) (half : Half) (hl : s.lut = lutOf s.scheme) (h : ∀ cell ∈ s.fb, alphaOf cell.2 = 0xFF) :
    ∀ cell ∈ s.scan half, alphaOf cell.2 = 0xFF := by
  have hc : ∀ x y : Nat, alphaOf (s.colour x y) = 0xFF := by
    intro x y
    unfold State.colour
    split
    · refine alphaOf_cellsRead _ _ _ (by decide) ?_
      rw [hl]
      exact alphaOf_lutOf _
    · decide
  intro cell hm
  cases half with
  | top =>
    rcases List.mem_append.mp hm with hm | hm
    · exact alphaOf_renderRange _ _ _ _ hc cell hm
    · exact h cell (List.mem_of_mem_filter hm)
  | bottom =>
    rcases List.mem_append.mp hm with hm | hm
    · exact h cell (List.mem_of_mem_filter hm)
    · exact alphaOf_renderRange _ _ _ _ hc cell hm

variable (s : State)

/-- The framebuffer after the scan of the top half. -/
theorem scan_top_read (x y : Nat) (hx : x < 224) :
    cellsRead Config.black (s.scan .top) (pixelIndex x y) = if y < 128 then s.colour x y else s.fbAt x y := by
  have hh := pixelIndex_lt_half x y hx
  unfold State.scan
  by_cases h : y < 128
  · have hlt := hh.mpr h
    rw [if_pos h, cellsRead_append_left, cellsRead_renderRange, if_pos ⟨Nat.zero_le _, by omega⟩, pixelIndex_mod x y hx,
      pixelIndex_div x y hx]
    intro cell hc
    rw [List.mem_filter, decide_eq_true_eq] at hc
    omega
  · have hge : ¬ pixelIndex x y < halfSize := fun hc => h (hh.mp hc)
    rw [if_neg h, cellsRead_append, cellsRead_filter Config.black (fun n => decide (halfSize ≤ n))]
    · have hd : decide (halfSize ≤ pixelIndex x y) = true := decide_eq_true (by omega)
      rw [hd, if_pos rfl]
      rfl
    · intro cell hc
      have := renderRange_mem _ _ _ _ cell hc
      omega

/-- The framebuffer after the scan of the bottom half. -/
theorem scan_bottom_read (x y : Nat) (hx : x < 224) (hy : y < 256) :
    cellsRead Config.black (s.scan .bottom) (pixelIndex x y) = if y < 128 then s.fbAt x y else s.colour x y := by
  have hh := pixelIndex_lt_half x y hx
  have hs := pixelIndex_lt x y hx hy
  have h2 : screenSize = halfSize + halfSize := rfl
  unfold State.scan
  by_cases h : y < 128
  · have hlt := hh.mpr h
    rw [if_pos h, cellsRead_append_left, cellsRead_filter Config.black (fun n => decide (n < halfSize))]
    · have hd : decide (pixelIndex x y < halfSize) = true := decide_eq_true hlt
      rw [hd, if_pos rfl]
      rfl
    · intro cell hc
      have := renderRange_mem _ _ _ _ cell hc
      omega
  · have hge : ¬ pixelIndex x y < halfSize := fun hc => h (hh.mp hc)
    rw [if_neg h, cellsRead_append, cellsRead_renderRange, if_pos ⟨by omega, by omega⟩, pixelIndex_mod x y hx, pixelIndex_div x y hx]
    intro cell hc
    rw [List.mem_filter, decide_eq_true_eq] at hc
    omega

/-- A scan keeps the canonical form of the framebuffer. -/
theorem screenWf_scan (half : Half) (h : screenWf Config.black s.fb = true) : screenWf Config.black (s.scan half) = true := by
  have h2 : screenSize = halfSize + halfSize := rfl
  cases half with
  | top =>
    refine cellsWfFrom_append _ _ _ _ 0 halfSize (Nat.zero_le _) (wfFrom_renderRange _ _ _ _ _ (by omega)) ?_ ?_
    · intro cell hc
      have := renderRange_mem _ _ _ _ cell hc
      omega
    · refine cellsWfFrom_of_le _ _ _ 0 halfSize ?_ (cellsWfFrom_filter _ _ _ _ _ h)
      intro cell hc
      rw [List.mem_filter, decide_eq_true_eq] at hc
      exact hc.2
  | bottom =>
    refine cellsWfFrom_append _ _ _ _ 0 halfSize (Nat.zero_le _) (cellsWfFrom_filter _ _ _ _ _ h) ?_
      (wfFrom_renderRange _ _ _ _ _ (by omega))
    intro cell hc
    rw [List.mem_filter, decide_eq_true_eq] at hc
    exact hc.2

end Sys2Proof.Machine
end

