-- ==== Sys2Proof/Laws/Launch.lean ====
section
/-! SUPPORT. What the parts of a launch do (spec/70_reset_and_hazards.md R353 to R356): loading bytes, ROM parts, and the load checks. -/

namespace Sys2Proof.Machine

/-! ### Bytes and parts -/

/-- Reading after a run of bytes that fits was written: its byte inside, the old byte outside. -/
theorem Memory.read_writeBytes (m : Memory) (addr x : Word) (bytes : List Byte) (h : addr.toNat + bytes.length ≤ 65536) :
    Memory.read (Memory.writeBytes m addr bytes) x =
      if addr.toNat ≤ x.toNat then (bytes[x.toNat - addr.toNat]?).getD (Memory.read m x) else Memory.read m x := by
  induction bytes generalizing m addr with
  | nil => simp [Memory.writeBytes]
  | cons v rest ih =>
    rw [List.length_cons] at h
    show Memory.read (Memory.writeBytes (Memory.write m addr v) (addr + 1) rest) x = _
    by_cases hr : rest = []
    · subst hr
      simp only [Memory.writeBytes, Memory.read_write]
      by_cases hx : x = addr
      · subst hx; simp
      · have hn : x.toNat ≠ addr.toNat := fun hc => hx (BitVec.eq_of_toNat_eq hc)
        rw [if_neg hx]
        split
        · next hle =>
          have hs : x.toNat - addr.toNat = (x.toNat - addr.toNat - 1) + 1 := by omega
          rw [hs]
          simp
        · rfl
    · have hpos : 0 < rest.length := List.length_pos_iff.mpr hr
      have ha : (addr + 1).toNat = addr.toNat + 1 := by
        rw [BitVec.toNat_add]
        simp
        omega
      rw [ih _ _ (by omega), ha, Memory.read_write]
      by_cases hx : x = addr
      · subst hx
        have h1 : ¬ x.toNat + 1 ≤ x.toNat := by omega
        simp [h1]
      · have hn : x.toNat ≠ addr.toNat := fun hc => hx (BitVec.eq_of_toNat_eq hc)
        rw [if_neg hx]
        by_cases hle : addr.toNat ≤ x.toNat
        · have hs : x.toNat - addr.toNat = (x.toNat - (addr.toNat + 1)) + 1 := by omega
          rw [if_pos hle, if_pos (by omega), hs, List.getElem?_cons_succ]
        · rw [if_neg hle, if_neg (by omega)]

/-- Bytes that fit load: what the memory then reads, and its canonical form. -/
theorem loadAt_fits (start : Nat) (bytes : List Byte) (m : Memory) (h : start + bytes.length ≤ 65536) :
    ∃ m' : Memory, loadAt start bytes m = .ok m' ∧ (m.wf = true → m'.wf = true) ∧
      ∀ x : Word, m'.read x = if start ≤ x.toNat then (bytes[x.toNat - start]?).getD (m.read x) else m.read x := by
  refine ⟨_, by rw [loadAt, if_pos h], Memory.wf_writeBytes m _ bytes, fun x => ?_⟩
  by_cases hs : start < 65536
  · have ha : (BitVec.ofNat 16 start).toNat = start := by
      rw [BitVec.toNat_ofNat]
      exact Nat.mod_eq_of_lt hs
    rw [Memory.read_writeBytes _ _ _ _ (by rw [ha]; exact h), ha]
  · have hb : bytes = [] := List.length_eq_zero_iff.mp (by omega)
    subst hb
    simp [Memory.writeBytes]

/-- A part that loads: it writes its bytes and nothing else. -/
theorem loadPart_accepted (part : RomPart) (m : Memory) (h : PartAccepted part) :
    ∃ m' : Memory, loadPart part m = .ok m' ∧ (m.wf = true → m'.wf = true) ∧
      ∀ x : Word, m'.read x = (partByte part x.toNat).getD (m.read x) := by
  obtain ⟨bytes, hm, hl, hf⟩ := h
  obtain ⟨m', hok, hwf, hr⟩ := loadAt_fits part.startAddr bytes m hf
  refine ⟨m', by simp only [loadPart, hm, hl, if_true, hok], hwf, fun x => ?_⟩
  rw [hr x]
  simp only [partByte, hm]
  split <;> rfl

/-- A part that does not load stops the launch with its own cause. -/
theorem loadPart_rejected (part : RomPart) (m : Memory) (e : ConfigError) (h : PartRejected part e) : loadPart part m = .error e := by
  cases e with
  | missingRom => simp only [PartRejected] at h; simp only [loadPart, h]
  | badZipMember => simp only [PartRejected] at h; simp only [loadPart, h]
  | sizeMismatch =>
    obtain ⟨bytes, hm, hl⟩ := h
    simp only [loadPart, hm, if_neg hl]
  | imagePastTop =>
    obtain ⟨bytes, hm, hl, hf⟩ := h
    simp only [loadPart, hm, if_pos hl, loadAt, if_neg (Nat.not_le.mpr hf)]
  | overlappingOverlays => exact h.elim
  | promSize => exact h.elim

theorem loadParts_append (first rest : List RomPart) (m m' : Memory) (h : loadParts first m = .ok m') :
    loadParts (first ++ rest) m = loadParts rest m' := by
  induction first generalizing m with
  | nil => cases h; rfl
  | cons part parts ih =>
    rw [List.cons_append]
    simp only [loadParts] at h ⊢
    split at h
    · exact ih _ h
    · cases h

/-- Parts that all load: each address reads as the last part that has a byte for it. -/
theorem loadParts_accepted (parts : List RomPart) (m : Memory) (h : ∀ part ∈ parts, PartAccepted part) :
    ∃ m' : Memory, loadParts parts m = .ok m' ∧ (m.wf = true → m'.wf = true) ∧
      ∀ x : Word, m'.read x = (parts.reverse.findSome? (fun part => partByte part x.toNat)).getD (m.read x) := by
  induction parts generalizing m with
  | nil => exact ⟨m, rfl, id, fun _ => rfl⟩
  | cons part rest ih =>
    obtain ⟨m1, h1, hw1, hr1⟩ := loadPart_accepted part m (h part (by simp))
    obtain ⟨m2, h2, hw2, hr2⟩ := ih m1 (fun p hp => h p (by simp [hp]))
    refine ⟨m2, by simp only [loadParts, h1, h2], fun hm => hw2 (hw1 hm), fun x => ?_⟩
    rw [hr2 x, hr1 x, List.reverse_cons, List.findSome?_append]
    cases rest.reverse.findSome? (fun part => partByte part x.toNat) <;> simp

/-- The first part that does not load stops the launch (log entry 25). -/
theorem loadParts_rejected (first rest : List RomPart) (part : RomPart) (m : Memory) (e : ConfigError)
    (h : ∀ p ∈ first, PartAccepted p) (hp : PartRejected part e) : loadParts (first ++ part :: rest) m = .error e := by
  obtain ⟨m1, h1, _, _⟩ := loadParts_accepted first m h
  rw [loadParts_append first _ m m1 h1]
  simp only [loadParts, loadPart_rejected part m1 e hp]

/-- Where not every part loads there is a first one that does not. -/
theorem exists_first_rejected (parts : List RomPart) (h : ¬∀ q ∈ parts, PartAccepted q) :
    ∃ (first rest : List RomPart) (part : RomPart) (e : ConfigError),
      parts = first ++ part :: rest ∧ (∀ q ∈ first, PartAccepted q) ∧ PartRejected part e := by
  induction parts with
  | nil => exact absurd (fun q hq => by cases hq) h
  | cons p ps ih =>
    by_cases hp : PartAccepted p
    · obtain ⟨first, rest, part, e, he, hf, hr⟩ := ih (fun hc => h (List.forall_mem_cons.mpr ⟨hp, hc⟩))
      exact ⟨p :: first, rest, part, e, by rw [he]; rfl, List.forall_mem_cons.mpr ⟨hp, hf⟩, hr⟩
    · have hnil : ∀ q ∈ ([] : List RomPart), PartAccepted q := fun q hq => by cases hq
      cases hm : p.member with
      | missing => exact ⟨[], ps, p, .missingRom, rfl, hnil, hm⟩
      | bad => exact ⟨[], ps, p, .badZipMember, rfl, hnil, hm⟩
      | data bytes =>
        by_cases hl : bytes.length = p.expectedSize
        · exact ⟨[], ps, p, .imagePastTop, rfl, hnil, bytes, hm, hl, Nat.not_le.mp (fun hc => hp ⟨bytes, hm, hl, hc⟩)⟩
        · exact ⟨[], ps, p, .sizeMismatch, rfl, hnil, bytes, hm, hl⟩

/-- An image loads exactly when it is accepted. -/
theorem loadImage_ok_iff (mode : Mode) (image : RomImage) (m : Memory) :
    (∃ m', loadImage mode image m = .ok m') ↔ ImageAccepted mode image := by
  cases image with
  | flat member =>
    constructor
    · rintro ⟨m', h⟩
      cases member with
      | missing => cases h
      | bad => cases h
      | data bytes =>
        refine ⟨bytes, rfl, ?_⟩
        by_contra hc
        rw [loadImage, loadAt, if_neg (by exact hc)] at h
        cases h
    · rintro ⟨bytes, rfl, hf⟩
      obtain ⟨m', hm, _⟩ := loadAt_fits (flatBase mode) bytes m hf
      exact ⟨m', hm⟩
  | parts ps =>
    constructor
    · rintro ⟨m', h⟩
      by_contra hc
      obtain ⟨first, rest, part, e, rfl, hf, hr⟩ := exists_first_rejected ps hc
      rw [loadImage, loadParts_rejected first rest part m e hf hr] at h
      cases h
    · intro h
      obtain ⟨m', hm, _⟩ := loadParts_accepted ps m h
      exact ⟨m', hm⟩

/-! ### A loaded memory is in canonical form -/

theorem loadAt_wf (start : Nat) (bytes : List Byte) (m m' : Memory) (h : loadAt start bytes m = .ok m') (hm : m.wf = true) :
    m'.wf = true := by
  unfold loadAt at h
  split at h
  · cases h; exact Memory.wf_writeBytes _ _ _ hm
  · cases h

theorem loadPart_wf (part : RomPart) (m m' : Memory) (h : loadPart part m = .ok m') (hm : m.wf = true) : m'.wf = true := by
  unfold loadPart at h
  split at h
  · cases h
  · cases h
  · split at h
    · exact loadAt_wf _ _ _ _ h hm
    · cases h

theorem loadParts_wf (parts : List RomPart) (m m' : Memory) (h : loadParts parts m = .ok m') (hm : m.wf = true) : m'.wf = true := by
  induction parts generalizing m with
  | nil => cases h; exact hm
  | cons part rest ih =>
    simp only [loadParts] at h
    split at h
    · next m1 h1 => exact ih _ h (loadPart_wf _ _ _ h1 hm)
    · cases h

theorem loadImage_wf (mode : Mode) (image : RomImage) (m m' : Memory) (h : loadImage mode image m = .ok m') (hm : m.wf = true) :
    m'.wf = true := by
  unfold loadImage at h
  split at h
  · cases h
  · cases h
  · exact loadAt_wf _ _ _ _ h hm
  · exact loadParts_wf _ _ _ h hm

/-! ### The patch (R356) -/

/-- The patch writes its five bytes in CPM mode, and nothing else. -/
theorem read_patchFor (mode : Mode) (m : Memory) (x : Word) (h : mode = .arcade ∨ x ∉ patchAddrs) :
    Memory.read (patchFor mode m) x = Memory.read m x := by
  cases mode with
  | arcade => rfl
  | cpm =>
    have hx : x ∉ patchAddrs := by
      rcases h with h | h
      · cases h
      · exact h
    simp only [patchAddrs, List.mem_cons, not_or] at hx
    obtain ⟨h0, h1, h5, h6, h7, _⟩ := hx
    simp only [patchFor, cpmPatch, Memory.writeBytes, Memory.read_write]
    have e1 : (0x0000 + 1 : Word) = 0x0001 := by decide
    have e6 : (0x0005 + 1 : Word) = 0x0006 := by decide
    have e7 : (0x0006 + 1 : Word) = 0x0007 := by decide
    simp only [e1, e6, e7, if_neg h0, if_neg h1, if_neg h5, if_neg h6, if_neg h7]

theorem wf_patchFor (mode : Mode) (m : Memory) (h : m.wf = true) : (patchFor mode m).wf = true := by
  cases mode with
  | arcade => exact h
  | cpm => exact Memory.wf_writeBytes _ _ _ (Memory.wf_writeBytes _ _ _ h)

/-! ### The load check of a scheme (R320; D18, D25) -/

theorem rectCovers_iff (r : Rect) (x y : Nat) : rectCovers r x y = true ↔ RectContains r x y := by
  simp [rectCovers, axisCovers, RectContains]

/-- Two ranges that are not the trivial one meet below `size` where they share a coordinate there. -/
theorem rangesMeet_iff (min1 max1 min2 max2 size : Nat) (h1 : ¬(min1 = 0 ∧ max1 = 0)) (h2 : ¬(min2 = 0 ∧ max2 = 0)) :
    rangesMeet min1 max1 min2 max2 size = true ↔
      ∃ v : Nat, v < size ∧ ((min1 = 0 ∧ max1 = 0) ∨ (min1 ≤ v ∧ v < max1)) ∧ ((min2 = 0 ∧ max2 = 0) ∨ (min2 ≤ v ∧ v < max2)) := by
  rw [rangesMeet, decide_eq_true_eq]
  constructor
  · intro h
    exact ⟨max min1 min2, by omega, .inr (by omega), .inr (by omega)⟩
  · rintro ⟨v, hv, hc1, hc2⟩
    omega

theorem rectBounded_iff (r : Rect) : rectBounded r = true ↔ RectBoundsBoth r := by
  simp [rectBounded, RectBoundsBoth]
  omega

/-- The check on ranges finds exactly a shared pixel. -/
theorem rectsOverlap_iff (r1 r2 : Rect) : rectsOverlap r1 r2 = true ↔ RectsShareAPixel r1 r2 := by
  simp only [rectsOverlap, Bool.and_eq_true, rectBounded_iff, RectsShareAPixel, RectContains, and_assoc]
  refine and_congr_right fun h1 => and_congr_right fun h2 => ?_
  rw [rangesMeet_iff _ _ _ _ _ h1.1 h2.1, rangesMeet_iff _ _ _ _ _ h1.2 h2.2]
  constructor
  · rintro ⟨⟨x, hx, hx1, hx2⟩, y, hy, hy1, hy2⟩
    exact ⟨x, y, hx, hy, hx1, hy1, hx2, hy2⟩
  · rintro ⟨x, y, hx, hy, hx1, hy1, hx2, hy2⟩
    exact ⟨⟨x, hx, hx1, hx2⟩, y, hy, hy1, hy2⟩

theorem anyOverlap_iff (rects : List Rect) :
    anyOverlap rects = false ↔ rects.Pairwise (fun r1 r2 => ¬RectsShareAPixel r1 r2) := by
  induction rects with
  | nil => simp [anyOverlap]
  | cons r rest ih =>
    rw [List.pairwise_cons, ← ih]
    simp only [anyOverlap, Bool.or_eq_false_iff, List.any_eq_false, ← rectsOverlap_iff]

/-- The load check answers ok on exactly the accepted schemes, and otherwise the cause of the scheme's kind. -/
theorem checkScheme_cases (scheme : ColourScheme) :
    (SchemeAccepted scheme ∧ checkScheme scheme = .ok ()) ∨
    (¬SchemeAccepted scheme ∧ (∃ rects, scheme = .overlay rects) ∧ checkScheme scheme = .error .overlappingOverlays) ∨
    (¬SchemeAccepted scheme ∧ (∃ bytes, scheme = .prom bytes) ∧ checkScheme scheme = .error .promSize) := by
  cases scheme with
  | none => exact .inl ⟨trivial, rfl⟩
  | overlay rects =>
    have hi := anyOverlap_iff rects
    cases ha : anyOverlap rects with
    | false => exact .inl ⟨hi.mp ha, by simp only [checkScheme, ha]; rfl⟩
    | true =>
      refine .inr (.inl ⟨fun hc => ?_, ⟨rects, rfl⟩, by simp only [checkScheme, ha, if_true]⟩)
      rw [hi.mpr hc] at ha
      cases ha
  | prom bytes =>
    by_cases hl : bytes.length = 1024
    · exact .inl ⟨hl, if_pos hl⟩
    · exact .inr (.inr ⟨hl, ⟨bytes, rfl⟩, if_neg hl⟩)

@[simp] theorem startState_lut (p : LaunchParams) (m : Memory) : (startState p m).lut = lutOf p.scheme := by
  simp only [startState, State.init]

@[simp] theorem startState_saves (p : LaunchParams) (m : Memory) : (startState p m).saves = p.saves := rfl

@[simp] theorem startState_mem (p : LaunchParams) (m : Memory) : (startState p m).mem = m := rfl

theorem launch_accepted (p : LaunchParams) (m : Memory) (h : loadImage p.mode p.image [] = .ok m) (hs : SchemeAccepted p.scheme) :
    launch p = .ok (startState p (patchFor p.mode m)) := by
  rcases checkScheme_cases p.scheme with ⟨_, hc⟩ | ⟨hn, _⟩ | ⟨hn, _⟩
  · simp only [launch, h, hc]
  · exact absurd hs hn
  · exact absurd hs hn

theorem launch_imageError (p : LaunchParams) (e : ConfigError) (h : loadImage p.mode p.image [] = .error e) : launch p = .error e := by
  simp only [launch, h]

theorem launch_schemeError (p : LaunchParams) (m : Memory) (e : ConfigError) (h : loadImage p.mode p.image [] = .ok m)
    (hc : checkScheme p.scheme = .error e) : launch p = .error e := by
  simp only [launch, h, hc]

/-- A launch that answers a state answers the start state of a memory that its image loaded. -/
theorem launch_ok (p : LaunchParams) (s : State) (h : launch p = .ok s) :
    ∃ m : Memory, loadImage p.mode p.image [] = .ok m ∧ checkScheme p.scheme = .ok () ∧ s = startState p (patchFor p.mode m) := by
  unfold launch at h
  split at h
  · cases h
  · next m hm =>
    split at h
    · cases h
    · next hc =>
      cases h
      exact ⟨m, hm, hc, rfl⟩

end Sys2Proof.Machine
end

