-- ==== Sys2Proof/Laws/PerInstr.lean ====
section
/-! SUPPORT. A family of statements about the syntax, one lemma per instruction: the length of an encoding is the one that its
opcode byte alone fixes (spec/30_encoding.md R80, R88). -/

namespace Sys2Proof.Laws.EncodedLength

/-- The opcode byte alone fixes the length of the instruction, and the length is 1, 2 or 3. -/
def Statement (i : Instr) : Prop :=
  i.length = opcodeLength i.opcode ∧ 1 ≤ i.length ∧ i.length ≤ 3

theorem of_one (i : Instr) (op : Byte) (hl : i.length = 1) (ho : i.opcode = op) (h : opcodeLength op = 1) : Statement i := by
  simp [Statement, hl, ho, h]

theorem of_two (i : Instr) (op : Byte) (hl : i.length = 2) (ho : i.opcode = op) (h : opcodeLength op = 2) : Statement i := by
  simp [Statement, hl, ho, h]

theorem of_three (i : Instr) (op : Byte) (hl : i.length = 3) (ho : i.opcode = op) (h : opcodeLength op = 3) : Statement i := by
  simp [Statement, hl, ho, h]

theorem lxiB (nn : Word) : Statement (.lxiB nn) := of_three _ 0x01 rfl rfl rfl
theorem mviB (n : Byte) : Statement (.mviB n) := of_two _ 0x06 rfl rfl rfl
theorem mviC (n : Byte) : Statement (.mviC n) := of_two _ 0x0E rfl rfl rfl
theorem lxiD (nn : Word) : Statement (.lxiD nn) := of_three _ 0x11 rfl rfl rfl
theorem mviD (n : Byte) : Statement (.mviD n) := of_two _ 0x16 rfl rfl rfl
theorem mviE (n : Byte) : Statement (.mviE n) := of_two _ 0x1E rfl rfl rfl
theorem lxiH (nn : Word) : Statement (.lxiH nn) := of_three _ 0x21 rfl rfl rfl
theorem shld (nn : Word) : Statement (.shld nn) := of_three _ 0x22 rfl rfl rfl
theorem mviH (n : Byte) : Statement (.mviH n) := of_two _ 0x26 rfl rfl rfl
theorem lhld (nn : Word) : Statement (.lhld nn) := of_three _ 0x2A rfl rfl rfl
theorem mviL (n : Byte) : Statement (.mviL n) := of_two _ 0x2E rfl rfl rfl
theorem lxiSp (nn : Word) : Statement (.lxiSp nn) := of_three _ 0x31 rfl rfl rfl
theorem sta (nn : Word) : Statement (.sta nn) := of_three _ 0x32 rfl rfl rfl
theorem mviM (n : Byte) : Statement (.mviM n) := of_two _ 0x36 rfl rfl rfl
theorem lda (nn : Word) : Statement (.lda nn) := of_three _ 0x3A rfl rfl rfl
theorem mviA (n : Byte) : Statement (.mviA n) := of_two _ 0x3E rfl rfl rfl
theorem jnz (nn : Word) : Statement (.jnz nn) := of_three _ 0xC2 rfl rfl rfl
theorem jmp (nn : Word) : Statement (.jmp nn) := of_three _ 0xC3 rfl rfl rfl
theorem cnz (nn : Word) : Statement (.cnz nn) := of_three _ 0xC4 rfl rfl rfl
theorem adi (n : Byte) : Statement (.adi n) := of_two _ 0xC6 rfl rfl rfl
theorem jz (nn : Word) : Statement (.jz nn) := of_three _ 0xCA rfl rfl rfl
theorem jmpCB (nn : Word) : Statement (.jmpCB nn) := of_three _ 0xCB rfl rfl rfl
theorem cz (nn : Word) : Statement (.cz nn) := of_three _ 0xCC rfl rfl rfl
theorem call (nn : Word) : Statement (.call nn) := of_three _ 0xCD rfl rfl rfl
theorem aci (n : Byte) : Statement (.aci n) := of_two _ 0xCE rfl rfl rfl
theorem jnc (nn : Word) : Statement (.jnc nn) := of_three _ 0xD2 rfl rfl rfl
theorem outPort (n : Byte) : Statement (.outPort n) := of_two _ 0xD3 rfl rfl rfl
theorem cnc (nn : Word) : Statement (.cnc nn) := of_three _ 0xD4 rfl rfl rfl
theorem sui (n : Byte) : Statement (.sui n) := of_two _ 0xD6 rfl rfl rfl
theorem jc (nn : Word) : Statement (.jc nn) := of_three _ 0xDA rfl rfl rfl
theorem inPort (n : Byte) : Statement (.inPort n) := of_two _ 0xDB rfl rfl rfl
theorem cc (nn : Word) : Statement (.cc nn) := of_three _ 0xDC rfl rfl rfl
theorem callDD (nn : Word) : Statement (.callDD nn) := of_three _ 0xDD rfl rfl rfl
theorem sbi (n : Byte) : Statement (.sbi n) := of_two _ 0xDE rfl rfl rfl
theorem jpo (nn : Word) : Statement (.jpo nn) := of_three _ 0xE2 rfl rfl rfl
theorem cpo (nn : Word) : Statement (.cpo nn) := of_three _ 0xE4 rfl rfl rfl
theorem ani (n : Byte) : Statement (.ani n) := of_two _ 0xE6 rfl rfl rfl
theorem jpe (nn : Word) : Statement (.jpe nn) := of_three _ 0xEA rfl rfl rfl
theorem cpe (nn : Word) : Statement (.cpe nn) := of_three _ 0xEC rfl rfl rfl
theorem callED (nn : Word) : Statement (.callED nn) := of_three _ 0xED rfl rfl rfl
theorem xri (n : Byte) : Statement (.xri n) := of_two _ 0xEE rfl rfl rfl
theorem jp (nn : Word) : Statement (.jp nn) := of_three _ 0xF2 rfl rfl rfl
theorem cp (nn : Word) : Statement (.cp nn) := of_three _ 0xF4 rfl rfl rfl
theorem ori (n : Byte) : Statement (.ori n) := of_two _ 0xF6 rfl rfl rfl
theorem jm (nn : Word) : Statement (.jm nn) := of_three _ 0xFA rfl rfl rfl
theorem cm (nn : Word) : Statement (.cm nn) := of_three _ 0xFC rfl rfl rfl
theorem callFD (nn : Word) : Statement (.callFD nn) := of_three _ 0xFD rfl rfl rfl
theorem cpi (n : Byte) : Statement (.cpi n) := of_two _ 0xFE rfl rfl rfl
theorem nop : Statement .nop := of_one _ 0x00 rfl rfl rfl
theorem staxB : Statement .staxB := of_one _ 0x02 rfl rfl rfl
theorem inxB : Statement .inxB := of_one _ 0x03 rfl rfl rfl
theorem inrB : Statement .inrB := of_one _ 0x04 rfl rfl rfl
theorem dcrB : Statement .dcrB := of_one _ 0x05 rfl rfl rfl
theorem rlc : Statement .rlc := of_one _ 0x07 rfl rfl rfl
theorem nop08 : Statement .nop08 := of_one _ 0x08 rfl rfl rfl
theorem dadB : Statement .dadB := of_one _ 0x09 rfl rfl rfl
theorem ldaxB : Statement .ldaxB := of_one _ 0x0A rfl rfl rfl
theorem dcxB : Statement .dcxB := of_one _ 0x0B rfl rfl rfl
theorem inrC : Statement .inrC := of_one _ 0x0C rfl rfl rfl
theorem dcrC : Statement .dcrC := of_one _ 0x0D rfl rfl rfl
theorem rrc : Statement .rrc := of_one _ 0x0F rfl rfl rfl
theorem nop10 : Statement .nop10 := of_one _ 0x10 rfl rfl rfl
theorem staxD : Statement .staxD := of_one _ 0x12 rfl rfl rfl
theorem inxD : Statement .inxD := of_one _ 0x13 rfl rfl rfl
theorem inrD : Statement .inrD := of_one _ 0x14 rfl rfl rfl
theorem dcrD : Statement .dcrD := of_one _ 0x15 rfl rfl rfl
theorem ral : Statement .ral := of_one _ 0x17 rfl rfl rfl
theorem nop18 : Statement .nop18 := of_one _ 0x18 rfl rfl rfl
theorem dadD : Statement .dadD := of_one _ 0x19 rfl rfl rfl
theorem ldaxD : Statement .ldaxD := of_one _ 0x1A rfl rfl rfl
theorem dcxD : Statement .dcxD := of_one _ 0x1B rfl rfl rfl
theorem inrE : Statement .inrE := of_one _ 0x1C rfl rfl rfl
theorem dcrE : Statement .dcrE := of_one _ 0x1D rfl rfl rfl
theorem rar : Statement .rar := of_one _ 0x1F rfl rfl rfl
theorem nop20 : Statement .nop20 := of_one _ 0x20 rfl rfl rfl
theorem inxH : Statement .inxH := of_one _ 0x23 rfl rfl rfl
theorem inrH : Statement .inrH := of_one _ 0x24 rfl rfl rfl
theorem dcrH : Statement .dcrH := of_one _ 0x25 rfl rfl rfl
theorem daa : Statement .daa := of_one _ 0x27 rfl rfl rfl
theorem nop28 : Statement .nop28 := of_one _ 0x28 rfl rfl rfl
theorem dadH : Statement .dadH := of_one _ 0x29 rfl rfl rfl
theorem dcxH : Statement .dcxH := of_one _ 0x2B rfl rfl rfl
theorem inrL : Statement .inrL := of_one _ 0x2C rfl rfl rfl
theorem dcrL : Statement .dcrL := of_one _ 0x2D rfl rfl rfl
theorem cma : Statement .cma := of_one _ 0x2F rfl rfl rfl
theorem nop30 : Statement .nop30 := of_one _ 0x30 rfl rfl rfl
theorem inxSp : Statement .inxSp := of_one _ 0x33 rfl rfl rfl
theorem inrM : Statement .inrM := of_one _ 0x34 rfl rfl rfl
theorem dcrM : Statement .dcrM := of_one _ 0x35 rfl rfl rfl
theorem stc : Statement .stc := of_one _ 0x37 rfl rfl rfl
theorem nop38 : Statement .nop38 := of_one _ 0x38 rfl rfl rfl
theorem dadSp : Statement .dadSp := of_one _ 0x39 rfl rfl rfl
theorem dcxSp : Statement .dcxSp := of_one _ 0x3B rfl rfl rfl
theorem inrA : Statement .inrA := of_one _ 0x3C rfl rfl rfl
theorem dcrA : Statement .dcrA := of_one _ 0x3D rfl rfl rfl
theorem cmc : Statement .cmc := of_one _ 0x3F rfl rfl rfl
theorem movBB : Statement .movBB := of_one _ 0x40 rfl rfl rfl
theorem movBC : Statement .movBC := of_one _ 0x41 rfl rfl rfl
theorem movBD : Statement .movBD := of_one _ 0x42 rfl rfl rfl
theorem movBE : Statement .movBE := of_one _ 0x43 rfl rfl rfl
theorem movBH : Statement .movBH := of_one _ 0x44 rfl rfl rfl
theorem movBL : Statement .movBL := of_one _ 0x45 rfl rfl rfl
theorem movBM : Statement .movBM := of_one _ 0x46 rfl rfl rfl
theorem movBA : Statement .movBA := of_one _ 0x47 rfl rfl rfl
theorem movCB : Statement .movCB := of_one _ 0x48 rfl rfl rfl
theorem movCC : Statement .movCC := of_one _ 0x49 rfl rfl rfl
theorem movCD : Statement .movCD := of_one _ 0x4A rfl rfl rfl
theorem movCE : Statement .movCE := of_one _ 0x4B rfl rfl rfl
theorem movCH : Statement .movCH := of_one _ 0x4C rfl rfl rfl
theorem movCL : Statement .movCL := of_one _ 0x4D rfl rfl rfl
theorem movCM : Statement .movCM := of_one _ 0x4E rfl rfl rfl
theorem movCA : Statement .movCA := of_one _ 0x4F rfl rfl rfl
theorem movDB : Statement .movDB := of_one _ 0x50 rfl rfl rfl
theorem movDC : Statement .movDC := of_one _ 0x51 rfl rfl rfl
theorem movDD : Statement .movDD := of_one _ 0x52 rfl rfl rfl
theorem movDE : Statement .movDE := of_one _ 0x53 rfl rfl rfl
theorem movDH : Statement .movDH := of_one _ 0x54 rfl rfl rfl
theorem movDL : Statement .movDL := of_one _ 0x55 rfl rfl rfl
theorem movDM : Statement .movDM := of_one _ 0x56 rfl rfl rfl
theorem movDA : Statement .movDA := of_one _ 0x57 rfl rfl rfl
theorem movEB : Statement .movEB := of_one _ 0x58 rfl rfl rfl
theorem movEC : Statement .movEC := of_one _ 0x59 rfl rfl rfl
theorem movED : Statement .movED := of_one _ 0x5A rfl rfl rfl
theorem movEE : Statement .movEE := of_one _ 0x5B rfl rfl rfl
theorem movEH : Statement .movEH := of_one _ 0x5C rfl rfl rfl
theorem movEL : Statement .movEL := of_one _ 0x5D rfl rfl rfl
theorem movEM : Statement .movEM := of_one _ 0x5E rfl rfl rfl
theorem movEA : Statement .movEA := of_one _ 0x5F rfl rfl rfl
theorem movHB : Statement .movHB := of_one _ 0x60 rfl rfl rfl
theorem movHC : Statement .movHC := of_one _ 0x61 rfl rfl rfl
theorem movHD : Statement .movHD := of_one _ 0x62 rfl rfl rfl
theorem movHE : Statement .movHE := of_one _ 0x63 rfl rfl rfl
theorem movHH : Statement .movHH := of_one _ 0x64 rfl rfl rfl
theorem movHL : Statement .movHL := of_one _ 0x65 rfl rfl rfl
theorem movHM : Statement .movHM := of_one _ 0x66 rfl rfl rfl
theorem movHA : Statement .movHA := of_one _ 0x67 rfl rfl rfl
theorem movLB : Statement .movLB := of_one _ 0x68 rfl rfl rfl
theorem movLC : Statement .movLC := of_one _ 0x69 rfl rfl rfl
theorem movLD : Statement .movLD := of_one _ 0x6A rfl rfl rfl
theorem movLE : Statement .movLE := of_one _ 0x6B rfl rfl rfl
theorem movLH : Statement .movLH := of_one _ 0x6C rfl rfl rfl
theorem movLL : Statement .movLL := of_one _ 0x6D rfl rfl rfl
theorem movLM : Statement .movLM := of_one _ 0x6E rfl rfl rfl
theorem movLA : Statement .movLA := of_one _ 0x6F rfl rfl rfl
theorem movMB : Statement .movMB := of_one _ 0x70 rfl rfl rfl
theorem movMC : Statement .movMC := of_one _ 0x71 rfl rfl rfl
theorem movMD : Statement .movMD := of_one _ 0x72 rfl rfl rfl
theorem movME : Statement .movME := of_one _ 0x73 rfl rfl rfl
theorem movMH : Statement .movMH := of_one _ 0x74 rfl rfl rfl
theorem movML : Statement .movML := of_one _ 0x75 rfl rfl rfl
theorem hlt : Statement .hlt := of_one _ 0x76 rfl rfl rfl
theorem movMA : Statement .movMA := of_one _ 0x77 rfl rfl rfl
theorem movAB : Statement .movAB := of_one _ 0x78 rfl rfl rfl
theorem movAC : Statement .movAC := of_one _ 0x79 rfl rfl rfl
theorem movAD : Statement .movAD := of_one _ 0x7A rfl rfl rfl
theorem movAE : Statement .movAE := of_one _ 0x7B rfl rfl rfl
theorem movAH : Statement .movAH := of_one _ 0x7C rfl rfl rfl
theorem movAL : Statement .movAL := of_one _ 0x7D rfl rfl rfl
theorem movAM : Statement .movAM := of_one _ 0x7E rfl rfl rfl
theorem movAA : Statement .movAA := of_one _ 0x7F rfl rfl rfl
theorem addB : Statement .addB := of_one _ 0x80 rfl rfl rfl
theorem addC : Statement .addC := of_one _ 0x81 rfl rfl rfl
theorem addD : Statement .addD := of_one _ 0x82 rfl rfl rfl
theorem addE : Statement .addE := of_one _ 0x83 rfl rfl rfl
theorem addH : Statement .addH := of_one _ 0x84 rfl rfl rfl
theorem addL : Statement .addL := of_one _ 0x85 rfl rfl rfl
theorem addM : Statement .addM := of_one _ 0x86 rfl rfl rfl
theorem addA : Statement .addA := of_one _ 0x87 rfl rfl rfl
theorem adcB : Statement .adcB := of_one _ 0x88 rfl rfl rfl
theorem adcC : Statement .adcC := of_one _ 0x89 rfl rfl rfl
theorem adcD : Statement .adcD := of_one _ 0x8A rfl rfl rfl
theorem adcE : Statement .adcE := of_one _ 0x8B rfl rfl rfl
theorem adcH : Statement .adcH := of_one _ 0x8C rfl rfl rfl
theorem adcL : Statement .adcL := of_one _ 0x8D rfl rfl rfl
theorem adcM : Statement .adcM := of_one _ 0x8E rfl rfl rfl
theorem adcA : Statement .adcA := of_one _ 0x8F rfl rfl rfl
theorem subB : Statement .subB := of_one _ 0x90 rfl rfl rfl
theorem subC : Statement .subC := of_one _ 0x91 rfl rfl rfl
theorem subD : Statement .subD := of_one _ 0x92 rfl rfl rfl
theorem subE : Statement .subE := of_one _ 0x93 rfl rfl rfl
theorem subH : Statement .subH := of_one _ 0x94 rfl rfl rfl
theorem subL : Statement .subL := of_one _ 0x95 rfl rfl rfl
theorem subM : Statement .subM := of_one _ 0x96 rfl rfl rfl
theorem subA : Statement .subA := of_one _ 0x97 rfl rfl rfl
theorem sbbB : Statement .sbbB := of_one _ 0x98 rfl rfl rfl
theorem sbbC : Statement .sbbC := of_one _ 0x99 rfl rfl rfl
theorem sbbD : Statement .sbbD := of_one _ 0x9A rfl rfl rfl
theorem sbbE : Statement .sbbE := of_one _ 0x9B rfl rfl rfl
theorem sbbH : Statement .sbbH := of_one _ 0x9C rfl rfl rfl
theorem sbbL : Statement .sbbL := of_one _ 0x9D rfl rfl rfl
theorem sbbM : Statement .sbbM := of_one _ 0x9E rfl rfl rfl
theorem sbbA : Statement .sbbA := of_one _ 0x9F rfl rfl rfl
theorem anaB : Statement .anaB := of_one _ 0xA0 rfl rfl rfl
theorem anaC : Statement .anaC := of_one _ 0xA1 rfl rfl rfl
theorem anaD : Statement .anaD := of_one _ 0xA2 rfl rfl rfl
theorem anaE : Statement .anaE := of_one _ 0xA3 rfl rfl rfl
theorem anaH : Statement .anaH := of_one _ 0xA4 rfl rfl rfl
theorem anaL : Statement .anaL := of_one _ 0xA5 rfl rfl rfl
theorem anaM : Statement .anaM := of_one _ 0xA6 rfl rfl rfl
theorem anaA : Statement .anaA := of_one _ 0xA7 rfl rfl rfl
theorem xraB : Statement .xraB := of_one _ 0xA8 rfl rfl rfl
theorem xraC : Statement .xraC := of_one _ 0xA9 rfl rfl rfl
theorem xraD : Statement .xraD := of_one _ 0xAA rfl rfl rfl
theorem xraE : Statement .xraE := of_one _ 0xAB rfl rfl rfl
theorem xraH : Statement .xraH := of_one _ 0xAC rfl rfl rfl
theorem xraL : Statement .xraL := of_one _ 0xAD rfl rfl rfl
theorem xraM : Statement .xraM := of_one _ 0xAE rfl rfl rfl
theorem xraA : Statement .xraA := of_one _ 0xAF rfl rfl rfl
theorem oraB : Statement .oraB := of_one _ 0xB0 rfl rfl rfl
theorem oraC : Statement .oraC := of_one _ 0xB1 rfl rfl rfl
theorem oraD : Statement .oraD := of_one _ 0xB2 rfl rfl rfl
theorem oraE : Statement .oraE := of_one _ 0xB3 rfl rfl rfl
theorem oraH : Statement .oraH := of_one _ 0xB4 rfl rfl rfl
theorem oraL : Statement .oraL := of_one _ 0xB5 rfl rfl rfl
theorem oraM : Statement .oraM := of_one _ 0xB6 rfl rfl rfl
theorem oraA : Statement .oraA := of_one _ 0xB7 rfl rfl rfl
theorem cmpB : Statement .cmpB := of_one _ 0xB8 rfl rfl rfl
theorem cmpC : Statement .cmpC := of_one _ 0xB9 rfl rfl rfl
theorem cmpD : Statement .cmpD := of_one _ 0xBA rfl rfl rfl
theorem cmpE : Statement .cmpE := of_one _ 0xBB rfl rfl rfl
theorem cmpH : Statement .cmpH := of_one _ 0xBC rfl rfl rfl
theorem cmpL : Statement .cmpL := of_one _ 0xBD rfl rfl rfl
theorem cmpM : Statement .cmpM := of_one _ 0xBE rfl rfl rfl
theorem cmpA : Statement .cmpA := of_one _ 0xBF rfl rfl rfl
theorem rnz : Statement .rnz := of_one _ 0xC0 rfl rfl rfl
theorem popB : Statement .popB := of_one _ 0xC1 rfl rfl rfl
theorem pushB : Statement .pushB := of_one _ 0xC5 rfl rfl rfl
theorem rst0 : Statement .rst0 := of_one _ 0xC7 rfl rfl rfl
theorem rz : Statement .rz := of_one _ 0xC8 rfl rfl rfl
theorem ret : Statement .ret := of_one _ 0xC9 rfl rfl rfl
theorem rst1 : Statement .rst1 := of_one _ 0xCF rfl rfl rfl
theorem rnc : Statement .rnc := of_one _ 0xD0 rfl rfl rfl
theorem popD : Statement .popD := of_one _ 0xD1 rfl rfl rfl
theorem pushD : Statement .pushD := of_one _ 0xD5 rfl rfl rfl
theorem rst2 : Statement .rst2 := of_one _ 0xD7 rfl rfl rfl
theorem rc : Statement .rc := of_one _ 0xD8 rfl rfl rfl
theorem retD9 : Statement .retD9 := of_one _ 0xD9 rfl rfl rfl
theorem rst3 : Statement .rst3 := of_one _ 0xDF rfl rfl rfl
theorem rpo : Statement .rpo := of_one _ 0xE0 rfl rfl rfl
theorem popH : Statement .popH := of_one _ 0xE1 rfl rfl rfl
theorem xthl : Statement .xthl := of_one _ 0xE3 rfl rfl rfl
theorem pushH : Statement .pushH := of_one _ 0xE5 rfl rfl rfl
theorem rst4 : Statement .rst4 := of_one _ 0xE7 rfl rfl rfl
theorem rpe : Statement .rpe := of_one _ 0xE8 rfl rfl rfl
theorem pchl : Statement .pchl := of_one _ 0xE9 rfl rfl rfl
theorem xchg : Statement .xchg := of_one _ 0xEB rfl rfl rfl
theorem rst5 : Statement .rst5 := of_one _ 0xEF rfl rfl rfl
theorem rp : Statement .rp := of_one _ 0xF0 rfl rfl rfl
theorem popPsw : Statement .popPsw := of_one _ 0xF1 rfl rfl rfl
theorem di : Statement .di := of_one _ 0xF3 rfl rfl rfl
theorem pushPsw : Statement .pushPsw := of_one _ 0xF5 rfl rfl rfl
theorem rst6 : Statement .rst6 := of_one _ 0xF7 rfl rfl rfl
theorem rm : Statement .rm := of_one _ 0xF8 rfl rfl rfl
theorem sphl : Statement .sphl := of_one _ 0xF9 rfl rfl rfl
theorem ei : Statement .ei := of_one _ 0xFB rfl rfl rfl
theorem rst7 : Statement .rst7 := of_one _ 0xFF rfl rfl rfl

end Sys2Proof.Laws.EncodedLength
end

