-- ==== Sys2Proof/Laws/Ports.lean ====
section
/-! SUPPORT. What the port handler does at each port (spec/45_io_ports.md R262 to R272), one lemma per port. -/

namespace Sys2Proof.Machine

variable (s : State) (v : Byte)

theorem ioRead_0 : ioRead 0 s = some s.ioPorts[0] := rfl
theorem ioRead_1 : ioRead 1 s = some s.ioPorts[1] := rfl
theorem ioRead_2 : ioRead 2 s = some s.ioPorts[2] := rfl
theorem ioRead_3 : ioRead 3 s = some s.shiftWindow := rfl

theorem ioRead_other (p : Byte) (h : 4 ≤ p.toNat) : ioRead p s = none := by
  unfold ioRead
  split <;> first | omega | rfl

theorem ioWrite_0_arcade (h : s.mode = .arcade) : ioWrite 0 v s = .next s := by
  unfold ioWrite
  rw [h]
  rfl

theorem ioWrite_0_cpm (h : s.mode = .cpm) : ioWrite 0 v s = .next s.stop := by
  unfold ioWrite
  rw [h]
  rfl

theorem ioWrite_1_arcade (h : s.mode = .arcade) : ioWrite 1 v s = .next s := by
  unfold ioWrite
  rw [h]
  rfl

theorem ioWrite_1_cpm (h : s.mode = .cpm) : ioWrite 1 v s = consoleOutput s := by
  unfold ioWrite
  rw [h]
  rfl

theorem ioWrite_2 : ioWrite 2 v s = .next (setShiftOffset v s) := rfl
theorem ioWrite_3 : ioWrite 3 v s = .next (soundBank1 v s) := rfl
theorem ioWrite_4 : ioWrite 4 v s = .next (shiftIn v s) := rfl
theorem ioWrite_5 : ioWrite 5 v s = .next (soundBank2 v s) := rfl

theorem ioWrite_other (p : Byte) (h : 6 ≤ p.toNat) : ioWrite p v s = .next s := by
  unfold ioWrite
  split <;> first | omega | rfl

/-- A byte is one of the six port numbers with a handler, or larger. -/
theorem port_cases (p : Byte) : p = 0 ∨ p = 1 ∨ p = 2 ∨ p = 3 ∨ p = 4 ∨ p = 5 ∨ 6 ≤ p.toNat := by
  have h : ∀ p : Byte, p = 0 ∨ p = 1 ∨ p = 2 ∨ p = 3 ∨ p = 4 ∨ p = 5 ∨ 6 ≤ p.toNat := by decide
  exact h p

/-! ### The console string (R272) -/

theorem dollarString_some (m : Memory) (size : Nat) (x : Word) (n : Nat) (hn : n < size)
    (hd : m.read (x + BitVec.ofNat 16 n) = 0x24) (hk : ∀ k : Nat, k < n → m.read (x + BitVec.ofNat 16 k) ≠ 0x24) :
    dollarString m size x = some ((List.range n).map (fun k => m.read (x + BitVec.ofNat 16 k))) := by
  induction size generalizing x n with
  | zero => omega
  | succ size ih =>
    unfold dollarString
    cases n with
    | zero =>
      have h0 : m.read x = 0x24 := by
        have e : x + BitVec.ofNat 16 0 = x := by bv_omega
        rwa [e] at hd
      rw [if_pos h0]
      rfl
    | succ n =>
      have h0 : m.read x ≠ 0x24 := by
        have e : x + BitVec.ofNat 16 0 = x := by bv_omega
        have h := hk 0 (by omega)
        rwa [e] at h
      have e : ∀ k : Nat, x + BitVec.ofNat 16 (k + 1) = x + 1 + BitVec.ofNat 16 k := by
        intro k
        bv_omega
      rw [if_neg h0, ih (x + 1) n (by omega) (by rw [← e]; exact hd) (fun k hlt => by rw [← e]; exact hk (k + 1) (by omega)),
        List.range_succ_eq_map, Option.map_some, List.map_cons, List.map_map]
      have e0 : x + BitVec.ofNat 16 0 = x := by bv_omega
      rw [e0]
      congr 2
      apply List.map_congr_left
      intro k _
      exact congrArg m.read (e k).symm

theorem dollarString_none (m : Memory) (size : Nat) (x : Word) (h : ∀ y : Word, m.read y ≠ 0x24) : dollarString m size x = none := by
  induction size generalizing x with
  | zero => rfl
  | succ size ih => rw [dollarString, if_neg (h x), ih, Option.map_none]

/-- A string that does not end within 65,536 bytes means that no byte of memory is '$'. -/
theorem dollarString_eq_none (m : Memory) (size : Nat) (x : Word) (h : dollarString m size x = none) :
    ∀ k : Nat, k < size → m.read (x + BitVec.ofNat 16 k) ≠ 0x24 := by
  induction size generalizing x with
  | zero => intro k hk; omega
  | succ size ih =>
    unfold dollarString at h
    split at h
    · cases h
    · next h0 =>
      have hn : dollarString m size (x + 1) = none := by
        cases hc : dollarString m size (x + 1) with
        | none => rfl
        | some l => rw [hc] at h; cases h
      intro k hk
      cases k with
      | zero =>
        have e : x + BitVec.ofNat 16 0 = x := by bv_omega
        rwa [e]
      | succ k =>
        have e : x + BitVec.ofNat 16 (k + 1) = x + 1 + BitVec.ofNat 16 k := by bv_omega
        rw [e]
        exact ih (x + 1) hn k (by omega)

/-! ### Sound (R268, R269, R274) -/

theorem applySound_startLoop (loops : List SoundId) (id : SoundId) :
    applySound loops (.startLoop id) = if id ∈ loops then loops else id :: loops := rfl

theorem applySound_stopLoop (loops : List SoundId) (id : SoundId) :
    applySound loops (.stopLoop id) = loops.filter (fun x => !decide (x = id)) := rfl

theorem mem_applySound (loops : List SoundId) (ev : SoundEvent) (id : SoundId) :
    id ∈ applySound loops ev ↔ ev = .startLoop id ∨ (id ∈ loops ∧ ev ≠ .stopLoop id) := by
  cases ev with
  | playOnce j => simp [applySound]
  | startLoop j =>
    rw [applySound_startLoop]
    split
    · next hj =>
      constructor
      · exact fun h => .inr ⟨h, by simp⟩
      · rintro (h | h)
        · cases h; exact hj
        · exact h.1
    · simp [List.mem_cons, eq_comm]
  | stopLoop j =>
    rw [applySound_stopLoop, List.mem_filter]
    have h : j = id ↔ id = j := eq_comm
    simp [h]

theorem nodup_applySound (loops : List SoundId) (ev : SoundEvent) (h : loops.Nodup) : (applySound loops ev).Nodup := by
  cases ev with
  | playOnce _ => exact h
  | startLoop id =>
    rw [applySound_startLoop]
    split
    · exact h
    · next hid => exact List.nodup_cons.mpr ⟨hid, h⟩
  | stopLoop id =>
    rw [applySound_stopLoop]
    exact h.filter _

/-- The APU's loops stay without repeats. -/
theorem nodup_foldl_applySound (events : List SoundEvent) (loops : List SoundId) (h : loops.Nodup) :
    (events.foldl applySound loops).Nodup := by
  induction events generalizing loops with
  | nil => exact h
  | cons ev rest ih => exact ih _ (nodup_applySound loops ev h)

theorem oneShots_nil (port : SoundPort) (rising : Byte) : oneShots port rising [] = [] := rfl

theorem oneShots_cons (port : SoundPort) (rising : Byte) (b : Fin 8) (bits : List (Fin 8)) :
    oneShots port rising (b :: bits) = (if rising[b] then [SoundEvent.playOnce ⟨port, b⟩] else []) ++ oneShots port rising bits := by
  unfold oneShots
  rw [List.filter_cons]
  split <;> rfl

/-- A rising bit: 1 in the new byte and 0 in the old (R274). -/
theorem rising_bit (w prev : Byte) (k : Fin 8) : (w &&& ~~~prev)[k] = (w[k] && !prev[k]) := by
  simp

/-- The events of OUT 3, edge by edge (R268). -/
theorem bank1Events_eq (prev w : Byte) :
    bank1Events prev w =
      (if w[0] && !prev[0] then [SoundEvent.startLoop ⟨.port3, 0⟩] else [])
        ++ (if prev[0] && !w[0] then [SoundEvent.stopLoop ⟨.port3, 0⟩] else [])
        ++ (if w[1] && !prev[1] then [SoundEvent.playOnce ⟨.port3, 1⟩] else [])
        ++ (if w[2] && !prev[2] then [SoundEvent.playOnce ⟨.port3, 2⟩] else [])
        ++ (if w[3] && !prev[3] then [SoundEvent.playOnce ⟨.port3, 3⟩] else []) := by
  have h0 : (prev &&& ~~~w)[0] = (prev[0] && !w[0]) := rising_bit prev w 0
  have g0 : (w &&& ~~~prev)[0] = (w[0] && !prev[0]) := rising_bit w prev 0
  simp only [bank1Events, oneShots_cons, oneShots_nil, rising_bit, h0, g0, List.append_assoc, List.append_nil]
  rfl

/-- The events of OUT 5, edge by edge (R269). -/
theorem bank2Events_eq (prev w : Byte) :
    bank2Events prev w =
      (if w[0] && !prev[0] then [SoundEvent.playOnce ⟨.port5, 0⟩] else [])
        ++ (if w[1] && !prev[1] then [SoundEvent.playOnce ⟨.port5, 1⟩] else [])
        ++ (if w[2] && !prev[2] then [SoundEvent.playOnce ⟨.port5, 2⟩] else [])
        ++ (if w[3] && !prev[3] then [SoundEvent.playOnce ⟨.port5, 3⟩] else [])
        ++ (if w[4] && !prev[4] then [SoundEvent.playOnce ⟨.port5, 4⟩] else []) := by
  simp only [bank2Events, oneShots_cons, oneShots_nil, rising_bit, List.append_assoc, List.append_nil]
  rfl

/-- One-shots do not change the loops. -/
theorem foldl_bank2Events (prev w : Byte) (loops : List SoundId) : (bank2Events prev w).foldl applySound loops = loops := by
  have h : ∀ (bits : List (Fin 8)) (l : List SoundId),
      (bits.map (fun i => SoundEvent.playOnce ⟨.port5, i⟩)).foldl applySound l = l := by
    intro bits
    induction bits with
    | nil => intro l; rfl
    | cons b rest ih => intro l; exact ih l
  exact h _ loops

/-! ### IN and OUT as a whole -/

/-- IN writes A or nothing, and ends (R261). -/
theorem inputFrom_cases (p : Byte) :
    (∃ v : Byte, inputFrom p s = .next ({ s with a := v }.advance 2 10)) ∨ inputFrom p s = .next (s.advance 2 10) := by
  unfold inputFrom
  cases ioRead p s with
  | none => exact .inr rfl
  | some v => exact .inl ⟨v, rfl⟩

theorem outputTo_of_next (p : Byte) (t : State) (h : ioWrite p s.a s = .next t) : outputTo p s = .next (t.advance 2 10) := by
  unfold outputTo
  rw [h]

/-- The console has no bytes only where C = 9 and no byte of memory is '$' (R272). -/
theorem consoleBytes_eq_none (h : consoleBytes s = none) : s.c = 9 ∧ ∀ x : Word, s.readByte x ≠ 0x24 := by
  unfold consoleBytes at h
  split at h
  · cases h
  · split at h
    · next h9 =>
      refine ⟨h9, fun x => ?_⟩
      have hx := dollarString_eq_none s.mem 65536 _ h (x - Word.ofBytes s.d s.e).toNat (BitVec.isLt _)
      have e : Word.ofBytes s.d s.e + BitVec.ofNat 16 (x - Word.ofBytes s.d s.e).toNat = x := by bv_omega
      rwa [e] at hx
    · cases h

/-- Everything OUT can do: one of seven updates and the end of the instruction, or the fault of the unterminated string (R265 to R272). -/
theorem outputTo_cases (p : Byte) :
    outputTo p s = .next (s.advance 2 10) ∨
    (p = 0 ∧ outputTo p s = .next (s.stop.advance 2 10)) ∨
    (∃ bytes : List Byte, outputTo p s = .next ({ s with outStream := bytes }.advance 2 10)) ∨
    outputTo p s = .next ((setShiftOffset s.a s).advance 2 10) ∨
    outputTo p s = .next ((shiftIn s.a s).advance 2 10) ∨
    outputTo p s = .next ((soundBank1 s.a s).advance 2 10) ∨
    outputTo p s = .next ((soundBank2 s.a s).advance 2 10) ∨
    (p = 1 ∧ s.mode = .cpm ∧ s.c = 9 ∧ (∀ x : Word, s.readByte x ≠ 0x24) ∧
      outputTo p s = .fault (.cpmUnterminatedString (Word.ofBytes s.d s.e))) := by
  have hm : s.mode = .arcade ∨ s.mode = .cpm := by cases s.mode <;> simp
  rcases port_cases p with rfl | rfl | rfl | rfl | rfl | rfl | h6
  · rcases hm with hm | hm
    · exact .inl (outputTo_of_next s 0 _ (ioWrite_0_arcade s _ hm))
    · exact .inr (.inl ⟨rfl, outputTo_of_next s 0 _ (ioWrite_0_cpm s _ hm)⟩)
  · rcases hm with hm | hm
    · exact .inl (outputTo_of_next s 1 _ (ioWrite_1_arcade s _ hm))
    · cases hb : consoleBytes s with
      | some bytes =>
        refine .inr (.inr (.inl ⟨_, outputTo_of_next s 1 { s with outStream := s.outStream ++ bytes } ?_⟩))
        rw [ioWrite_1_cpm s _ hm, consoleOutput, hb]
      | none =>
        have hn := consoleBytes_eq_none s hb
        refine .inr (.inr (.inr (.inr (.inr (.inr (.inr ⟨rfl, hm, hn.1, hn.2, ?_⟩))))))
        rw [outputTo, ioWrite_1_cpm s _ hm, consoleOutput, hb]
  · exact .inr (.inr (.inr (.inl rfl)))
  · exact .inr (.inr (.inr (.inr (.inr (.inl rfl)))))
  · exact .inr (.inr (.inr (.inr (.inl rfl))))
  · exact .inr (.inr (.inr (.inr (.inr (.inr (.inl rfl))))))
  · exact .inl (outputTo_of_next s p _ (ioWrite_other s _ p h6))

end Sys2Proof.Machine
end

