-- ==== Sys2Proof/Laws/Scheduler.lean ====
section
/-! SUPPORT. What the parts of a scheduler turn do and keep (spec/60_exceptions.md R324 to R343): interrupts, the video, host events. -/

namespace Sys2Proof.Machine

variable (s : State)

/-- A request changes IE, PC, SP and memory only, and memory keeps its canonical form. -/
theorem requestInterrupt_keeps (n : BitVec 3) : SameBut [] { s with ie := (requestInterrupt n s).ie } (requestInterrupt n s) := by
  have h := sameBut_push16 s s.pc
  cases hie : s.ie with
  | false =>
    rw [requestInterrupt_disabled s n hie]
    exact ⟨fun r _ => by cases r <;> rfl, rfl, rfl, ⟨rfl, rfl, rfl, rfl, rfl, rfl⟩, ⟨rfl, rfl, rfl, rfl, rfl, rfl, rfl, rfl, rfl, rfl, rfl⟩⟩
  | true =>
    rw [requestInterrupt_enabled s n hie]
    exact ⟨fun r hr => by have := h.regs r hr; cases r <;> exact this, rfl, h.running,
      ⟨h.ports.sr, h.ports.so, h.ports.ioPorts, h.ports.outStream, h.ports.soundEvents, h.ports.loops⟩,
      ⟨h.outside.startY, h.outside.fb, h.outside.lut, h.outside.acc, h.outside.paused, h.outside.saves, h.outside.shutdown,
        h.outside.schedule, h.outside.mode, h.outside.scheme, h.outside.throttled⟩⟩

theorem requestInterrupt_outside (n : BitVec 3) : SameOutside s (requestInterrupt n s) :=
  let h := (requestInterrupt_keeps s n).outside
  ⟨h.startY, h.fb, h.lut, h.acc, h.paused, h.saves, h.shutdown, h.schedule, h.mode, h.scheme, h.throttled⟩

theorem requestInterrupt_ports (n : BitVec 3) : SamePorts s (requestInterrupt n s) :=
  let h := (requestInterrupt_keeps s n).ports
  ⟨h.sr, h.so, h.ioPorts, h.outStream, h.soundEvents, h.loops⟩

theorem requestInterrupt_running (n : BitVec 3) : (requestInterrupt n s).running = s.running :=
  (requestInterrupt_keeps s n).running

/-- The request reads and writes nothing of the screen, so it can be made before or after the screen is replaced. -/
theorem requestInterrupt_screen (n : BitVec 3) (fb : Screen) (half : Half) :
    requestInterrupt n { s with fb := fb, startY := half } = { requestInterrupt n s with fb := fb, startY := half } := by
  by_cases hie : s.ie = true
  · rw [requestInterrupt_enabled s n hie, requestInterrupt_enabled { s with fb := fb, startY := half } n hie]
    rfl
  · have hf : s.ie = false := Bool.eq_false_iff.mpr hie
    rw [requestInterrupt_disabled s n hf, requestInterrupt_disabled { s with fb := fb, startY := half } n hf]

/-- The host's reset recomputes the LUT (70_reset_and_hazards.md R351). -/
theorem hostReset_lut : (hostReset s).lut = lutOf s.scheme := by
  simp only [hostReset]

/-! ### The invariant, part by part -/

variable {s}

theorem State.Inv.requestInterrupt (h : s.Inv) (n : BitVec 3) : (requestInterrupt n s).Inv :=
  let o := requestInterrupt_outside s n
  ⟨State.wf_requestInterrupt s n h.mem, by rw [o.saves]; exact h.saves, by rw [o.fb]; exact h.fb, by rw [o.lut, o.scheme]; exact h.lut,
    by rw [o.acc, requestInterrupt_running]; exact h.acc, by rw [(requestInterrupt_ports s n).loops]; exact h.loops, by rw [o.fb]; exact h.alpha⟩

theorem State.Inv.videoStep (h : s.Inv) : (videoStep s).Inv := by
  have hs : State.Inv { s with fb := s.scan s.startY, startY := Half.other s.startY } :=
    ⟨h.mem, h.saves, screenWf_scan s s.startY h.fb, h.lut, h.acc, h.loops, alphaOf_scan s s.startY h.lut h.alpha⟩
  unfold Sys2Proof.Machine.videoStep
  split
  · exact hs
  · exact hs.requestInterrupt _

theorem State.Inv.applyEvent (h : s.Inv) (ev : HostEvent) (t : State) (he : applyEvent ev s = .next t) : t.Inv := by
  cases ev with
  | sendInput port bit value =>
    simp only [Sys2Proof.Machine.applyEvent, sendInput] at he
    split at he
    · cases he; exact ⟨h.mem, h.saves, h.fb, h.lut, h.acc, h.loops, h.alpha⟩
    · cases he
  | togglePause => cases he; exact ⟨h.mem, h.saves, h.fb, h.lut, h.acc, h.loops, h.alpha⟩
  | reset =>
    cases he
    have hz : 0 < Config.cyclesPerFrame := by decide
    exact ⟨h.mem, h.saves, h.fb, hostReset_lut s, .inl hz, h.loops, h.alpha⟩
  | save =>
    cases he
    refine ⟨h.mem, ?_, h.fb, h.lut, h.acc, h.loops, h.alpha⟩
    intro snap hm
    rcases List.mem_cons.mp hm with rfl | hm
    · exact h.mem
    · exact h.saves snap hm
  | load age =>
    simp only [Sys2Proof.Machine.applyEvent] at he
    split at he
    · next snap hg =>
      cases he
      exact ⟨h.saves snap (List.mem_of_getElem? hg), h.saves, h.fb, h.lut, h.acc, h.loops, h.alpha⟩
    · cases he
  | loadCorrupt => cases he
  | shutdown => cases he; exact ⟨h.mem, h.saves, h.fb, h.lut, h.acc, h.loops, h.alpha⟩

theorem State.Inv.applyEvents (events : List HostEvent) (h : s.Inv) (t : State) (he : applyEvents events s = .next t) : t.Inv := by
  induction events generalizing s with
  | nil => cases he; exact h
  | cons ev rest ih =>
    simp only [Sys2Proof.Machine.applyEvents] at he
    split at he
    · next u hu =>
      have hi := h.applyEvent ev u hu
      split at he
      · cases he; exact hi
      · exact ih hi he
    · cases he
    · cases he

theorem State.Inv.hostTurn (h : s.Inv) (t : State) (he : hostTurn s = .next t) : t.Inv := by
  unfold Sys2Proof.Machine.hostTurn at he
  split at he
  · cases he; exact h
  · next batch rest _ =>
    have hr : State.Inv { s with schedule := rest } := ⟨h.mem, h.saves, h.fb, h.lut, h.acc, h.loops, h.alpha⟩
    exact hr.applyEvents batch t he

/-! ### The batch of a boundary -/

/-- A batch goes on behind its first events, in the order sent, as long as none of them stops it or shuts the host down (R341). -/
theorem applyEvents_append (first rest : List HostEvent) (s t : State) (h : applyEvents first s = .next t) (ht : t.shutdown = false) :
    applyEvents (first ++ rest) s = applyEvents rest t := by
  induction first generalizing s with
  | nil => cases h; rfl
  | cons ev events ih =>
    rw [List.cons_append]
    simp only [Sys2Proof.Machine.applyEvents] at h ⊢
    split at h
    · next u hu =>
      by_cases hd : u.shutdown = true
      · rw [if_pos hd] at h
        cases h
        rw [hd] at ht
        cases ht
      · rw [if_neg hd] at h
        rw [if_neg hd]
        exact ih u h
    · cases h
    · cases h

/-- A tick while paused paints its half and toggles startY, and changes nothing else (R325). -/
theorem videoStep_paused (s : State) (h : s.paused = true) :
    videoStep s = { s with fb := s.scan s.startY, startY := s.startY.other } := by
  simp only [Sys2Proof.Machine.videoStep, h, if_true]

end Sys2Proof.Machine
end

