-- ==== Sys2Proof/Tests/Slice0.lean ====
section
/-! SUPPORT. The model's own tests: well-formedness, decoding, one step of each kind of instruction, and a witness for the hypotheses of
every obligation. Expected results are from the spec's tables (opcode_table.json, 30_encoding.md R85, 95_test_vectors.md). -/

namespace Sys2Proof.Tests

open Sys2Proof Sys2Proof.Machine

/-! ### Helpers -/

/-- The state an outcome goes on with. -/
def nextOf (r : Host.Outcome State Fault Refusal) : Option State :=
  match r with
  | .next t => some t
  | .fault _ => none
  | .refused _ => none

/-- A state with bytes stored at single addresses. -/
def poke (s : State) (cells : List (Word × Byte)) : State :=
  { s with mem := cells.foldl (fun m cell => m.write cell.1 cell.2) s.mem }

/-- The base state of 95_test_vectors.md 2.0: `Init(0x1000)`. -/
def base : State := { State.reset with pc := 0x1000 }

/-! ### Well-formedness: what WellFormed refuses, and what it accepts at the bounds (60_exceptions.md R340) -/

theorem test_wf_sendInput_port_8 : (HostEvent.sendInput 8 0 true).wellFormed = false := by decide
theorem test_wf_sendInput_bit_8 : (HostEvent.sendInput 1 8 true).wellFormed = false := by decide
theorem test_wf_sendInput_7_7 : (HostEvent.sendInput 7 7 true).wellFormed = true := by decide
theorem test_wf_instruction : (Instr.rst7).wellFormed = true ∧ (Instr.jmp 0xFFFF).wellFormed = true := by decide
theorem test_ill_formed_event_is_refused :
    (match applyEvent (.sendInput 8 0 true) base with | .refused r => some r | _ => none) = some (.sendInputOutOfRange 8 0) := by decide

/-! ### Decoding: a word of every constructor, from the opcode map (30_encoding.md R85), operands low byte first (R83) -/

theorem test_decode_row_0 :
    ([
      [0x00], [0x01, 0x34, 0x12], [0x02], [0x03], [0x04], [0x05], [0x06, 0x5A], [0x07], [0x08], [0x09], [0x0A], [0x0B], [0x0C], [0x0D],
      [0x0E, 0x5A], [0x0F]] :
      List (List Byte)).map decode = [
      .ok (.nop, []), .ok (.lxiB 0x1234, []), .ok (.staxB, []), .ok (.inxB, []), .ok (.inrB, []), .ok (.dcrB, []),
      .ok (.mviB 0x5A, []), .ok (.rlc, []), .ok (.nop08, []), .ok (.dadB, []), .ok (.ldaxB, []), .ok (.dcxB, []), .ok (.inrC, []),
      .ok (.dcrC, []), .ok (.mviC 0x5A, []), .ok (.rrc, [])] := by
  decide

theorem test_decode_row_1 :
    ([
      [0x10], [0x11, 0x34, 0x12], [0x12], [0x13], [0x14], [0x15], [0x16, 0x5A], [0x17], [0x18], [0x19], [0x1A], [0x1B], [0x1C], [0x1D],
      [0x1E, 0x5A], [0x1F]] :
      List (List Byte)).map decode = [
      .ok (.nop10, []), .ok (.lxiD 0x1234, []), .ok (.staxD, []), .ok (.inxD, []), .ok (.inrD, []), .ok (.dcrD, []),
      .ok (.mviD 0x5A, []), .ok (.ral, []), .ok (.nop18, []), .ok (.dadD, []), .ok (.ldaxD, []), .ok (.dcxD, []), .ok (.inrE, []),
      .ok (.dcrE, []), .ok (.mviE 0x5A, []), .ok (.rar, [])] := by
  decide

theorem test_decode_row_2 :
    ([
      [0x20], [0x21, 0x34, 0x12], [0x22, 0x34, 0x12], [0x23], [0x24], [0x25], [0x26, 0x5A], [0x27], [0x28], [0x29], [0x2A, 0x34, 0x12],
      [0x2B], [0x2C], [0x2D], [0x2E, 0x5A], [0x2F]] :
      List (List Byte)).map decode = [
      .ok (.nop20, []), .ok (.lxiH 0x1234, []), .ok (.shld 0x1234, []), .ok (.inxH, []), .ok (.inrH, []), .ok (.dcrH, []),
      .ok (.mviH 0x5A, []), .ok (.daa, []), .ok (.nop28, []), .ok (.dadH, []), .ok (.lhld 0x1234, []), .ok (.dcxH, []),
      .ok (.inrL, []), .ok (.dcrL, []), .ok (.mviL 0x5A, []), .ok (.cma, [])] := by
  decide

theorem test_decode_row_3 :
    ([
      [0x30], [0x31, 0x34, 0x12], [0x32, 0x34, 0x12], [0x33], [0x34], [0x35], [0x36, 0x5A], [0x37], [0x38], [0x39], [0x3A, 0x34, 0x12],
      [0x3B], [0x3C], [0x3D], [0x3E, 0x5A], [0x3F]] :
      List (List Byte)).map decode = [
      .ok (.nop30, []), .ok (.lxiSp 0x1234, []), .ok (.sta 0x1234, []), .ok (.inxSp, []), .ok (.inrM, []), .ok (.dcrM, []),
      .ok (.mviM 0x5A, []), .ok (.stc, []), .ok (.nop38, []), .ok (.dadSp, []), .ok (.lda 0x1234, []), .ok (.dcxSp, []),
      .ok (.inrA, []), .ok (.dcrA, []), .ok (.mviA 0x5A, []), .ok (.cmc, [])] := by
  decide

theorem test_decode_row_4 :
    ([
      [0x40], [0x41], [0x42], [0x43], [0x44], [0x45], [0x46], [0x47], [0x48], [0x49], [0x4A], [0x4B], [0x4C], [0x4D], [0x4E], [0x4F]] :
      List (List Byte)).map decode = [
      .ok (.movBB, []), .ok (.movBC, []), .ok (.movBD, []), .ok (.movBE, []), .ok (.movBH, []), .ok (.movBL, []), .ok (.movBM, []),
      .ok (.movBA, []), .ok (.movCB, []), .ok (.movCC, []), .ok (.movCD, []), .ok (.movCE, []), .ok (.movCH, []), .ok (.movCL, []),
      .ok (.movCM, []), .ok (.movCA, [])] := by
  decide

theorem test_decode_row_5 :
    ([
      [0x50], [0x51], [0x52], [0x53], [0x54], [0x55], [0x56], [0x57], [0x58], [0x59], [0x5A], [0x5B], [0x5C], [0x5D], [0x5E], [0x5F]] :
      List (List Byte)).map decode = [
      .ok (.movDB, []), .ok (.movDC, []), .ok (.movDD, []), .ok (.movDE, []), .ok (.movDH, []), .ok (.movDL, []), .ok (.movDM, []),
      .ok (.movDA, []), .ok (.movEB, []), .ok (.movEC, []), .ok (.movED, []), .ok (.movEE, []), .ok (.movEH, []), .ok (.movEL, []),
      .ok (.movEM, []), .ok (.movEA, [])] := by
  decide

theorem test_decode_row_6 :
    ([
      [0x60], [0x61], [0x62], [0x63], [0x64], [0x65], [0x66], [0x67], [0x68], [0x69], [0x6A], [0x6B], [0x6C], [0x6D], [0x6E], [0x6F]] :
      List (List Byte)).map decode = [
      .ok (.movHB, []), .ok (.movHC, []), .ok (.movHD, []), .ok (.movHE, []), .ok (.movHH, []), .ok (.movHL, []), .ok (.movHM, []),
      .ok (.movHA, []), .ok (.movLB, []), .ok (.movLC, []), .ok (.movLD, []), .ok (.movLE, []), .ok (.movLH, []), .ok (.movLL, []),
      .ok (.movLM, []), .ok (.movLA, [])] := by
  decide

theorem test_decode_row_7 :
    ([
      [0x70], [0x71], [0x72], [0x73], [0x74], [0x75], [0x76], [0x77], [0x78], [0x79], [0x7A], [0x7B], [0x7C], [0x7D], [0x7E], [0x7F]] :
      List (List Byte)).map decode = [
      .ok (.movMB, []), .ok (.movMC, []), .ok (.movMD, []), .ok (.movME, []), .ok (.movMH, []), .ok (.movML, []), .ok (.hlt, []),
      .ok (.movMA, []), .ok (.movAB, []), .ok (.movAC, []), .ok (.movAD, []), .ok (.movAE, []), .ok (.movAH, []), .ok (.movAL, []),
      .ok (.movAM, []), .ok (.movAA, [])] := by
  decide

theorem test_decode_row_8 :
    ([
      [0x80], [0x81], [0x82], [0x83], [0x84], [0x85], [0x86], [0x87], [0x88], [0x89], [0x8A], [0x8B], [0x8C], [0x8D], [0x8E], [0x8F]] :
      List (List Byte)).map decode = [
      .ok (.addB, []), .ok (.addC, []), .ok (.addD, []), .ok (.addE, []), .ok (.addH, []), .ok (.addL, []), .ok (.addM, []),
      .ok (.addA, []), .ok (.adcB, []), .ok (.adcC, []), .ok (.adcD, []), .ok (.adcE, []), .ok (.adcH, []), .ok (.adcL, []),
      .ok (.adcM, []), .ok (.adcA, [])] := by
  decide

theorem test_decode_row_9 :
    ([
      [0x90], [0x91], [0x92], [0x93], [0x94], [0x95], [0x96], [0x97], [0x98], [0x99], [0x9A], [0x9B], [0x9C], [0x9D], [0x9E], [0x9F]] :
      List (List Byte)).map decode = [
      .ok (.subB, []), .ok (.subC, []), .ok (.subD, []), .ok (.subE, []), .ok (.subH, []), .ok (.subL, []), .ok (.subM, []),
      .ok (.subA, []), .ok (.sbbB, []), .ok (.sbbC, []), .ok (.sbbD, []), .ok (.sbbE, []), .ok (.sbbH, []), .ok (.sbbL, []),
      .ok (.sbbM, []), .ok (.sbbA, [])] := by
  decide

theorem test_decode_row_A :
    ([
      [0xA0], [0xA1], [0xA2], [0xA3], [0xA4], [0xA5], [0xA6], [0xA7], [0xA8], [0xA9], [0xAA], [0xAB], [0xAC], [0xAD], [0xAE], [0xAF]] :
      List (List Byte)).map decode = [
      .ok (.anaB, []), .ok (.anaC, []), .ok (.anaD, []), .ok (.anaE, []), .ok (.anaH, []), .ok (.anaL, []), .ok (.anaM, []),
      .ok (.anaA, []), .ok (.xraB, []), .ok (.xraC, []), .ok (.xraD, []), .ok (.xraE, []), .ok (.xraH, []), .ok (.xraL, []),
      .ok (.xraM, []), .ok (.xraA, [])] := by
  decide

theorem test_decode_row_B :
    ([
      [0xB0], [0xB1], [0xB2], [0xB3], [0xB4], [0xB5], [0xB6], [0xB7], [0xB8], [0xB9], [0xBA], [0xBB], [0xBC], [0xBD], [0xBE], [0xBF]] :
      List (List Byte)).map decode = [
      .ok (.oraB, []), .ok (.oraC, []), .ok (.oraD, []), .ok (.oraE, []), .ok (.oraH, []), .ok (.oraL, []), .ok (.oraM, []),
      .ok (.oraA, []), .ok (.cmpB, []), .ok (.cmpC, []), .ok (.cmpD, []), .ok (.cmpE, []), .ok (.cmpH, []), .ok (.cmpL, []),
      .ok (.cmpM, []), .ok (.cmpA, [])] := by
  decide

theorem test_decode_row_C :
    ([
      [0xC0], [0xC1], [0xC2, 0x34, 0x12], [0xC3, 0x34, 0x12], [0xC4, 0x34, 0x12], [0xC5], [0xC6, 0x5A], [0xC7], [0xC8], [0xC9],
      [0xCA, 0x34, 0x12], [0xCB, 0x34, 0x12], [0xCC, 0x34, 0x12], [0xCD, 0x34, 0x12], [0xCE, 0x5A], [0xCF]] :
      List (List Byte)).map decode = [
      .ok (.rnz, []), .ok (.popB, []), .ok (.jnz 0x1234, []), .ok (.jmp 0x1234, []), .ok (.cnz 0x1234, []), .ok (.pushB, []),
      .ok (.adi 0x5A, []), .ok (.rst0, []), .ok (.rz, []), .ok (.ret, []), .ok (.jz 0x1234, []), .ok (.jmpCB 0x1234, []),
      .ok (.cz 0x1234, []), .ok (.call 0x1234, []), .ok (.aci 0x5A, []), .ok (.rst1, [])] := by
  decide

theorem test_decode_row_D :
    ([
      [0xD0], [0xD1], [0xD2, 0x34, 0x12], [0xD3, 0x5A], [0xD4, 0x34, 0x12], [0xD5], [0xD6, 0x5A], [0xD7], [0xD8], [0xD9],
      [0xDA, 0x34, 0x12], [0xDB, 0x5A], [0xDC, 0x34, 0x12], [0xDD, 0x34, 0x12], [0xDE, 0x5A], [0xDF]] :
      List (List Byte)).map decode = [
      .ok (.rnc, []), .ok (.popD, []), .ok (.jnc 0x1234, []), .ok (.outPort 0x5A, []), .ok (.cnc 0x1234, []), .ok (.pushD, []),
      .ok (.sui 0x5A, []), .ok (.rst2, []), .ok (.rc, []), .ok (.retD9, []), .ok (.jc 0x1234, []), .ok (.inPort 0x5A, []),
      .ok (.cc 0x1234, []), .ok (.callDD 0x1234, []), .ok (.sbi 0x5A, []), .ok (.rst3, [])] := by
  decide

theorem test_decode_row_E :
    ([
      [0xE0], [0xE1], [0xE2, 0x34, 0x12], [0xE3], [0xE4, 0x34, 0x12], [0xE5], [0xE6, 0x5A], [0xE7], [0xE8], [0xE9], [0xEA, 0x34, 0x12],
      [0xEB], [0xEC, 0x34, 0x12], [0xED, 0x34, 0x12], [0xEE, 0x5A], [0xEF]] :
      List (List Byte)).map decode = [
      .ok (.rpo, []), .ok (.popH, []), .ok (.jpo 0x1234, []), .ok (.xthl, []), .ok (.cpo 0x1234, []), .ok (.pushH, []),
      .ok (.ani 0x5A, []), .ok (.rst4, []), .ok (.rpe, []), .ok (.pchl, []), .ok (.jpe 0x1234, []), .ok (.xchg, []),
      .ok (.cpe 0x1234, []), .ok (.callED 0x1234, []), .ok (.xri 0x5A, []), .ok (.rst5, [])] := by
  decide

theorem test_decode_row_F :
    ([
      [0xF0], [0xF1], [0xF2, 0x34, 0x12], [0xF3], [0xF4, 0x34, 0x12], [0xF5], [0xF6, 0x5A], [0xF7], [0xF8], [0xF9], [0xFA, 0x34, 0x12],
      [0xFB], [0xFC, 0x34, 0x12], [0xFD, 0x34, 0x12], [0xFE, 0x5A], [0xFF]] :
      List (List Byte)).map decode = [
      .ok (.rp, []), .ok (.popPsw, []), .ok (.jp 0x1234, []), .ok (.di, []), .ok (.cp 0x1234, []), .ok (.pushPsw, []),
      .ok (.ori 0x5A, []), .ok (.rst6, []), .ok (.rm, []), .ok (.sphl, []), .ok (.jm 0x1234, []), .ok (.ei, []), .ok (.cm 0x1234, []),
      .ok (.callFD 0x1234, []), .ok (.cpi 0x5A, []), .ok (.rst7, [])] := by
  decide

theorem test_decode_leaves_the_rest : decode [0x3E, 0x42, 0x76] = .ok (.mviA 0x42, [0x76]) := by decide
theorem test_decode_refuses_truncated :
    ([[], [0x3E], [0xC3], [0xC3, 0x00]] : List (List Byte)).map decode = 
      [.error .noOpcode, .error (.truncated 0x3E), .error (.truncated 0xC3), .error (.truncated 0xC3)] := by decide
theorem test_table_word_short : decodeTableWord 8 0xC3 = some (.jmp 0x0000) := by decide
theorem test_table_word_whole : decodeTableWord 24 0x1234C3 = some (.jmp 0x1234) := by decide
theorem test_encode_high_byte_last : encode (.shld 0x1234) = [0x22, 0x34, 0x12] := by decide

/-! ### The host's placement of one instruction -/

theorem test_withFetchWord_runs_first :
    (nextOf (step (State.reset.withFetchWord 16 0x7F06))).map (fun t => (t.b, t.pc, t.cyc, t.acc)) = some (0x7F, 0x0002, 7, 7) := by decide

/-! ### One instruction each: the vectors of 95_test_vectors.md 2.1 to 2.7, every field compared -/

/-- MOV B,A (R100). -/
theorem test_mov_b_a_1 :
    let s := poke { base with a := 0x5A } [(0x1000, 0x47)]
    nextOf (cpuStep s) = some ({ s with b := 0x5A, pc := 0x1001, cyc := 5 }) := by decide

/-- load from M (R101). -/
theorem test_mov_a_m_1 :
    let s := poke { base with h := 0x20, l := 0x00 } [(0x1000, 0x7E), (0x2000, 0x99)]
    nextOf (cpuStep s) = some ({ s with a := 0x99, pc := 0x1001, cyc := 7 }) := by decide

/-- store to VRAM (R102). -/
theorem test_mov_m_b_1 :
    let s := poke { base with b := 0x81, h := 0x24, l := 0x00 } [(0x1000, 0x70)]
    nextOf (cpuStep s) = some (poke { s with pc := 0x1001, cyc := 7 } [(0x2400, 0x81)]) := by decide

/-- MVI M (R104). -/
theorem test_mvi_m_d8_1 :
    let s := poke { base with h := 0x3F, l := 0xFF } [(0x1000, 0x36), (0x1001, 0xFF)]
    nextOf (cpuStep s) = some (poke { s with pc := 0x1002, cyc := 10 } [(0x3FFF, 0xFF)]) := by decide

/-- MVI B,0; flags untouched (R103). -/
theorem test_mvi_b_d8_1 :
    let s := poke { base with b := 0x77 } [(0x1000, 0x06), (0x1001, 0x00)]
    nextOf (cpuStep s) = some ({ s with b := 0x00, pc := 0x1002, cyc := 7 }) := by decide

/-- LXI SP (R105). -/
theorem test_lxi_sp_d16_1 :
    let s := poke base [(0x1000, 0x31), (0x1001, 0x00), (0x1002, 0x24)]
    nextOf (cpuStep s) = some ({ s with sp := 0x2400, pc := 0x1003, cyc := 10 }) := by decide

/-- LXI H: L from pc+1, H from pc+2 (R105). -/
theorem test_lxi_h_d16_1 :
    let s := poke base [(0x1000, 0x21), (0x1001, 0x34), (0x1002, 0x12)]
    nextOf (cpuStep s) = some ({ s with h := 0x12, l := 0x34, pc := 0x1003, cyc := 10 }) := by decide

/-- LDA top address (R106). -/
theorem test_lda_a16_1 :
    let s := poke base [(0x1000, 0x3A), (0x1001, 0xFF), (0x1002, 0xFF), (0xFFFF, 0x42)]
    nextOf (cpuStep s) = some ({ s with a := 0x42, pc := 0x1003, cyc := 13 }) := by decide

/-- STA (R107). -/
theorem test_sta_a16_1 :
    let s := poke { base with a := 0xC3 } [(0x1000, 0x32), (0x1001, 0x00), (0x1002, 0x20)]
    nextOf (cpuStep s) = some (poke { s with pc := 0x1003, cyc := 13 } [(0x2000, 0xC3)]) := by decide

/-- LHLD wraps to 0x0000 (R108). -/
theorem test_lhld_a16_1 :
    let s := poke base [(0x1000, 0x2A), (0x1001, 0xFF), (0x1002, 0xFF), (0xFFFF, 0x11), (0x0000, 0x22)]
    nextOf (cpuStep s) = some ({ s with h := 0x22, l := 0x11, pc := 0x1003, cyc := 16 }) := by decide

/-- SHLD: L low (R109). -/
theorem test_shld_a16_1 :
    let s := poke { base with h := 0xAB, l := 0xCD } [(0x1000, 0x22), (0x1001, 0x00), (0x1002, 0x20)]
    nextOf (cpuStep s) = some (poke { s with pc := 0x1003, cyc := 16 } [(0x2000, 0xCD), (0x2001, 0xAB)]) := by decide

/-- LDAX D (R110). -/
theorem test_ldax_d_1 :
    let s := poke { base with d := 0x20, e := 0x10 } [(0x1000, 0x1A), (0x2010, 0x5C)]
    nextOf (cpuStep s) = some ({ s with a := 0x5C, pc := 0x1001, cyc := 7 }) := by decide

/-- STAX B (R111). -/
theorem test_stax_b_1 :
    let s := poke { base with a := 0xEE, b := 0x23, c := 0xFF } [(0x1000, 0x02)]
    nextOf (cpuStep s) = some (poke { s with pc := 0x1001, cyc := 7 } [(0x23FF, 0xEE)]) := by decide

/-- XCHG (R112). -/
theorem test_xchg_1 :
    let s := poke { base with d := 0x12, e := 0x34, h := 0x56, l := 0x78 } [(0x1000, 0xEB)]
    nextOf (cpuStep s) = some ({ s with d := 0x56, e := 0x78, h := 0x12, l := 0x34, pc := 0x1001, cyc := 4 }) := by decide

/-- ADD: Z, AC, CY (41_arithmetic.md rule R140 example) (R140). -/
theorem test_add_b_1 :
    let s := poke { base with a := 0x3A, b := 0xC6 } [(0x1000, 0x80)]
    nextOf (cpuStep s) = some ({ s with a := 0x00, flags := Flags.unpack 0x57, pc := 0x1001, cyc := 4 }) := by decide

/-- ADD A: CY = old bit 7, AC = old bit 3 (R140). -/
theorem test_add_a_1 :
    let s := poke { base with a := 0x88 } [(0x1000, 0x87)]
    nextOf (cpuStep s) = some ({ s with a := 0x10, flags := Flags.unpack 0x13, pc := 0x1001, cyc := 4 }) := by decide

/-- ADC: carry-in makes the half carry (R143). -/
theorem test_adc_b_1 :
    let s := poke { base with a := 0x0F, b := 0x00, flags := Flags.unpack 0x03 } [(0x1000, 0x88)]
    nextOf (cpuStep s) = some ({ s with a := 0x10, flags := Flags.unpack 0x12, pc := 0x1001, cyc := 4 }) := by decide

/-- ACI 0xFF with CY=1: wraps to 0 (R145). -/
theorem test_aci_d8_1 :
    let s := poke { base with a := 0x00, flags := Flags.unpack 0x03 } [(0x1000, 0xCE), (0x1001, 0xFF)]
    nextOf (cpuStep s) = some ({ s with flags := Flags.unpack 0x57, pc := 0x1002, cyc := 7 }) := by decide

/-- SUB equal: Z=1, AC=1, CY=0 (R146). -/
theorem test_sub_b_1 :
    let s := poke { base with a := 0x05, b := 0x05 } [(0x1000, 0x90)]
    nextOf (cpuStep s) = some ({ s with a := 0x00, flags := Flags.unpack 0x56, pc := 0x1001, cyc := 4 }) := by decide

/-- SUI borrow (R148). -/
theorem test_sui_d8_1 :
    let s := poke { base with a := 0x00 } [(0x1000, 0xD6), (0x1001, 0x01)]
    nextOf (cpuStep s) = some ({ s with a := 0xFF, flags := Flags.unpack 0x87, pc := 0x1002, cyc := 7 }) := by decide

/-- SBB borrow-aware AC: (5 >= 5+1) false, AC=0 (90_conflicts.md C6) (R149). -/
theorem test_sbb_b_1 :
    let s := poke { base with a := 0x15, b := 0x05, flags := Flags.unpack 0x03 } [(0x1000, 0x98)]
    nextOf (cpuStep s) = some ({ s with a := 0x0F, flags := Flags.unpack 0x06, pc := 0x1001, cyc := 4 }) := by decide

/-- SBB: 0x10-0-1 (R149). -/
theorem test_sbb_b_2 :
    let s := poke { base with a := 0x10, b := 0x00, flags := Flags.unpack 0x03 } [(0x1000, 0x98)]
    nextOf (cpuStep s) = some ({ s with a := 0x0F, flags := Flags.unpack 0x06, pc := 0x1001, cyc := 4 }) := by decide

/-- SBI 0xFF with CY=1: a < b + c in integer arithmetic (R151). -/
theorem test_sbi_d8_1 :
    let s := poke { base with a := 0x00, flags := Flags.unpack 0x03 } [(0x1000, 0xDE), (0x1001, 0xFF)]
    nextOf (cpuStep s) = some ({ s with flags := Flags.unpack 0x47, pc := 0x1002, cyc := 7 }) := by decide

/-- INR wraps; CY untouched (R152). -/
theorem test_inr_a_1 :
    let s := poke { base with a := 0xFF, flags := Flags.unpack 0x03 } [(0x1000, 0x3C)]
    nextOf (cpuStep s) = some ({ s with a := 0x00, flags := Flags.unpack 0x57, pc := 0x1001, cyc := 5 }) := by decide

/-- INR half carry (R152). -/
theorem test_inr_b_1 :
    let s := poke { base with b := 0x0F } [(0x1000, 0x04)]
    nextOf (cpuStep s) = some ({ s with flags := Flags.unpack 0x12, b := 0x10, pc := 0x1001, cyc := 5 }) := by decide

/-- DCR 0x00: AC = (0 >= 1) = 0 (90_conflicts.md C7) (R154). -/
theorem test_dcr_a_1 :
    let s := poke { base with a := 0x00 } [(0x1000, 0x3D)]
    nextOf (cpuStep s) = some ({ s with a := 0xFF, flags := Flags.unpack 0x86, pc := 0x1001, cyc := 5 }) := by decide

/-- DCR to zero: AC=1, CY untouched (R154). -/
theorem test_dcr_c_1 :
    let s := poke { base with c := 0x01, flags := Flags.unpack 0x03 } [(0x1000, 0x0D)]
    nextOf (cpuStep s) = some ({ s with flags := Flags.unpack 0x57, c := 0x00, pc := 0x1001, cyc := 5 }) := by decide

/-- DCR M (R155). -/
theorem test_dcr_m_1 :
    let s := poke { base with h := 0x20, l := 0x00 } [(0x1000, 0x35), (0x2000, 0x10)]
    nextOf (cpuStep s) = some (poke { s with flags := Flags.unpack 0x06, pc := 0x1001, cyc := 10 } [(0x2000, 0x0F)]) := by decide

/-- INX wraps; no flags (R156). -/
theorem test_inx_h_1 :
    let s := poke { base with h := 0xFF, l := 0xFF, flags := Flags.unpack 0xD7 } [(0x1000, 0x23)]
    nextOf (cpuStep s) = some ({ s with h := 0x00, l := 0x00, pc := 0x1001, cyc := 5 }) := by decide

/-- DCX SP wraps (R157). -/
theorem test_dcx_sp_1 :
    let s := poke { base with sp := 0x0000 } [(0x1000, 0x3B)]
    nextOf (cpuStep s) = some ({ s with sp := 0xFFFF, pc := 0x1001, cyc := 5 }) := by decide

/-- DAD H: CY only (R158). -/
theorem test_dad_h_1 :
    let s := poke { base with h := 0x80, l := 0x00 } [(0x1000, 0x29)]
    nextOf (cpuStep s) = some ({ s with flags := Flags.unpack 0x03, h := 0x00, pc := 0x1001, cyc := 10 }) := by decide

/-- DAD SP: other flags untouched (R158). -/
theorem test_dad_sp_1 :
    let s := poke { base with h := 0x00, l := 0x01, sp := 0xFFFF, flags := Flags.unpack 0xC6 } [(0x1000, 0x39)]
    nextOf (cpuStep s) = some ({ s with flags := Flags.unpack 0xC7, l := 0x00, pc := 0x1001, cyc := 10 }) := by decide

/-- DAA (41_arithmetic.md rule R159 example) (R159). -/
theorem test_daa_1 :
    let s := poke { base with a := 0x9B, flags := Flags.unpack 0x02 } [(0x1000, 0x27)]
    nextOf (cpuStep s) = some ({ s with a := 0x01, flags := Flags.unpack 0x13, pc := 0x1001, cyc := 4 }) := by decide

/-- DAA with CY=1 adds 0x60; CY stays 1 (R159). -/
theorem test_daa_2 :
    let s := poke { base with a := 0x00, flags := Flags.unpack 0x03 } [(0x1000, 0x27)]
    nextOf (cpuStep s) = some ({ s with a := 0x60, flags := Flags.unpack 0x07, pc := 0x1001, cyc := 4 }) := by decide

/-- ANA: AC = bit 3 of (a OR b) (R170). -/
theorem test_ana_b_1 :
    let s := poke { base with a := 0xFC, b := 0x0F } [(0x1000, 0xA0)]
    nextOf (cpuStep s) = some ({ s with a := 0x0C, flags := Flags.unpack 0x16, pc := 0x1001, cyc := 4 }) := by decide

/-- ANI: AC=0 here, CY cleared (R172). -/
theorem test_ani_d8_1 :
    let s := poke { base with a := 0xF0, flags := Flags.unpack 0x13 } [(0x1000, 0xE6), (0x1001, 0x01)]
    nextOf (cpuStep s) = some ({ s with a := 0x00, flags := Flags.unpack 0x46, pc := 0x1002, cyc := 7 }) := by decide

/-- XRA A: the clear-A idiom (R173). -/
theorem test_xra_a_1 :
    let s := poke { base with a := 0x5A, flags := Flags.unpack 0x13 } [(0x1000, 0xAF)]
    nextOf (cpuStep s) = some ({ s with a := 0x00, flags := Flags.unpack 0x46, pc := 0x1001, cyc := 4 }) := by decide

/-- XRI (R175). -/
theorem test_xri_d8_1 :
    let s := poke { base with a := 0x0F } [(0x1000, 0xEE), (0x1001, 0xFF)]
    nextOf (cpuStep s) = some ({ s with a := 0xF0, flags := Flags.unpack 0x86, pc := 0x1002, cyc := 7 }) := by decide

/-- ORA: AC and CY cleared (R176). -/
theorem test_ora_b_1 :
    let s := poke { base with a := 0x80, b := 0x01, flags := Flags.unpack 0x11 } [(0x1000, 0xB0)]
    nextOf (cpuStep s) = some ({ s with a := 0x81, flags := Flags.unpack 0x86, pc := 0x1001, cyc := 4 }) := by decide

/-- ORI 0: Z=1, P=1 (R178). -/
theorem test_ori_d8_1 :
    let s := poke { base with a := 0x00 } [(0x1000, 0xF6), (0x1001, 0x00)]
    nextOf (cpuStep s) = some ({ s with flags := Flags.unpack 0x46, pc := 0x1002, cyc := 7 }) := by decide

/-- CMP equal: A unchanged (R179). -/
theorem test_cmp_b_1 :
    let s := poke { base with a := 0x05, b := 0x05 } [(0x1000, 0xB8)]
    nextOf (cpuStep s) = some ({ s with flags := Flags.unpack 0x56, pc := 0x1001, cyc := 4 }) := by decide

/-- CPI greater: CY=1 (R181). -/
theorem test_cpi_d8_1 :
    let s := poke { base with a := 0x05 } [(0x1000, 0xFE), (0x1001, 0x06)]
    nextOf (cpuStep s) = some ({ s with flags := Flags.unpack 0x87, pc := 0x1002, cyc := 7 }) := by decide

/-- CMP M (R180). -/
theorem test_cmp_m_1 :
    let s := poke { base with a := 0x10, h := 0x20, l := 0x00 } [(0x1000, 0xBE), (0x2000, 0x01)]
    nextOf (cpuStep s) = some ({ s with flags := Flags.unpack 0x06, pc := 0x1001, cyc := 7 }) := by decide

/-- RLC (R182). -/
theorem test_rlc_1 :
    let s := poke { base with a := 0x80 } [(0x1000, 0x07)]
    nextOf (cpuStep s) = some ({ s with a := 0x01, flags := Flags.unpack 0x03, pc := 0x1001, cyc := 4 }) := by decide

/-- RRC (R183). -/
theorem test_rrc_1 :
    let s := poke { base with a := 0x01 } [(0x1000, 0x0F)]
    nextOf (cpuStep s) = some ({ s with a := 0x80, flags := Flags.unpack 0x03, pc := 0x1001, cyc := 4 }) := by decide

/-- RAL through CY=0 (R184). -/
theorem test_ral_1 :
    let s := poke { base with a := 0x80 } [(0x1000, 0x17)]
    nextOf (cpuStep s) = some ({ s with a := 0x00, flags := Flags.unpack 0x03, pc := 0x1001, cyc := 4 }) := by decide

/-- RAR through CY=1 (R185). -/
theorem test_rar_1 :
    let s := poke { base with a := 0x01, flags := Flags.unpack 0x03 } [(0x1000, 0x1F)]
    nextOf (cpuStep s) = some ({ s with a := 0x80, pc := 0x1001, cyc := 4 }) := by decide

/-- RLC leaves S, Z, AC, P (R182). -/
theorem test_rlc_2 :
    let s := poke { base with a := 0x00, flags := Flags.unpack 0xD7 } [(0x1000, 0x07)]
    nextOf (cpuStep s) = some ({ s with flags := Flags.unpack 0xD6, pc := 0x1001, cyc := 4 }) := by decide

/-- CMA: no flags (R186). -/
theorem test_cma_1 :
    let s := poke { base with a := 0x55, flags := Flags.unpack 0x02 } [(0x1000, 0x2F)]
    nextOf (cpuStep s) = some ({ s with a := 0xAA, pc := 0x1001, cyc := 4 }) := by decide

/-- STC (R188). -/
theorem test_stc_1 :
    let s := poke { base with flags := Flags.unpack 0xD6 } [(0x1000, 0x37)]
    nextOf (cpuStep s) = some ({ s with flags := Flags.unpack 0xD7, pc := 0x1001, cyc := 4 }) := by decide

/-- CMC (R187). -/
theorem test_cmc_1 :
    let s := poke { base with flags := Flags.unpack 0x03 } [(0x1000, 0x3F)]
    nextOf (cpuStep s) = some ({ s with flags := Flags.unpack 0x02, pc := 0x1001, cyc := 4 }) := by decide

/-- JMP (R200). -/
theorem test_jmp_a16_1 :
    let s := poke base [(0x1000, 0xC3), (0x1001, 0x00), (0x1002, 0x20)]
    nextOf (cpuStep s) = some ({ s with pc := 0x2000, cyc := 10 }) := by decide

/-- JNZ taken (R201). -/
theorem test_jnz_a16_1 :
    let s := poke { base with flags := Flags.unpack 0x02 } [(0x1000, 0xC2), (0x1001, 0x00), (0x1002, 0x20)]
    nextOf (cpuStep s) = some ({ s with pc := 0x2000, cyc := 10 }) := by decide

/-- JNZ not taken: same 10 cycles (R201). -/
theorem test_jnz_a16_2 :
    let s := poke { base with flags := Flags.unpack 0x42 } [(0x1000, 0xC2), (0x1001, 0x00), (0x1002, 0x20)]
    nextOf (cpuStep s) = some ({ s with pc := 0x1003, cyc := 10 }) := by decide

/-- JPE taken (P=1) (R201). -/
theorem test_jpe_a16_1 :
    let s := poke { base with flags := Flags.unpack 0x06 } [(0x1000, 0xEA), (0x1001, 0x00), (0x1002, 0x20)]
    nextOf (cpuStep s) = some ({ s with pc := 0x2000, cyc := 10 }) := by decide

/-- JM not taken (S=0) (R201). -/
theorem test_jm_a16_1 :
    let s := poke { base with flags := Flags.unpack 0x02 } [(0x1000, 0xFA), (0x1001, 0x00), (0x1002, 0x20)]
    nextOf (cpuStep s) = some ({ s with pc := 0x1003, cyc := 10 }) := by decide

/-- CALL pushes pc+3 (R202). -/
theorem test_call_a16_1 :
    let s := poke { base with sp := 0x2400 } [(0x1000, 0xCD), (0x1001, 0x00), (0x1002, 0x20)]
    nextOf (cpuStep s) = some (poke { s with sp := 0x23FE, pc := 0x2000, cyc := 17 } [(0x23FE, 0x03), (0x23FF, 0x10)]) := by decide

/-- CALL: push wraps below 0x0000 (R202). -/
theorem test_call_a16_2 :
    let s := poke { base with sp := 0x0001 } [(0x1000, 0xCD), (0x1001, 0x00), (0x1002, 0x20)]
    nextOf (cpuStep s) = some (poke { s with sp := 0xFFFF, pc := 0x2000, cyc := 17 } [(0x0000, 0x10), (0xFFFF, 0x03)]) := by decide

/-- CC not taken (R203). -/
theorem test_cc_a16_1 :
    let s := poke { base with sp := 0x2400, flags := Flags.unpack 0x02 } [(0x1000, 0xDC), (0x1001, 0x00), (0x1002, 0x20)]
    nextOf (cpuStep s) = some ({ s with pc := 0x1003, cyc := 11 }) := by decide

/-- CC taken (R203). -/
theorem test_cc_a16_2 :
    let s := poke { base with sp := 0x2400, flags := Flags.unpack 0x03 } [(0x1000, 0xDC), (0x1001, 0x00), (0x1002, 0x20)]
    nextOf (cpuStep s) = some (poke { s with sp := 0x23FE, pc := 0x2000, cyc := 17 } [(0x23FE, 0x03), (0x23FF, 0x10)]) := by decide

/-- RET (R204). -/
theorem test_ret_1 :
    let s := poke { base with sp := 0x23FE } [(0x1000, 0xC9), (0x23FE, 0x03), (0x23FF, 0x10)]
    nextOf (cpuStep s) = some ({ s with sp := 0x2400, pc := 0x1003, cyc := 10 }) := by decide

/-- RZ taken (R205). -/
theorem test_rz_1 :
    let s := poke { base with sp := 0x23FE, flags := Flags.unpack 0x42 } [(0x1000, 0xC8), (0x23FE, 0x03), (0x23FF, 0x10)]
    nextOf (cpuStep s) = some ({ s with sp := 0x2400, pc := 0x1003, cyc := 11 }) := by decide

/-- RZ not taken (R205). -/
theorem test_rz_2 :
    let s := poke { base with sp := 0x23FE, flags := Flags.unpack 0x02 } [(0x1000, 0xC8), (0x23FE, 0x03), (0x23FF, 0x10)]
    nextOf (cpuStep s) = some ({ s with pc := 0x1001, cyc := 5 }) := by decide

/-- RST 7 pushes pc+1 (R206). -/
theorem test_rst_7_1 :
    let s := poke { base with sp := 0x2400 } [(0x1000, 0xFF)]
    nextOf (cpuStep s) = some (poke { s with sp := 0x23FE, pc := 0x0038, cyc := 11 } [(0x23FE, 0x01), (0x23FF, 0x10)]) := by decide

/-- RST 1 (R206). -/
theorem test_rst_1_1 :
    let s := poke { base with sp := 0x2400 } [(0x1000, 0xCF)]
    nextOf (cpuStep s) = some (poke { s with sp := 0x23FE, pc := 0x0008, cyc := 11 } [(0x23FE, 0x01), (0x23FF, 0x10)]) := by decide

/-- PCHL (R207). -/
theorem test_pchl_1 :
    let s := poke { base with h := 0x12, l := 0x34 } [(0x1000, 0xE9)]
    nextOf (cpuStep s) = some ({ s with pc := 0x1234, cyc := 5 }) := by decide

/-- JMP* (0xCB) = JMP (R208). -/
theorem test_jmp_dup_a16_1 :
    let s := poke base [(0x1000, 0xCB), (0x1001, 0x00), (0x1002, 0x20)]
    nextOf (cpuStep s) = some ({ s with pc := 0x2000, cyc := 10 }) := by decide

/-- RET* (0xD9) = RET (R210). -/
theorem test_ret_dup_1 :
    let s := poke { base with sp := 0x23FE } [(0x1000, 0xD9), (0x23FE, 0x03), (0x23FF, 0x10)]
    nextOf (cpuStep s) = some ({ s with sp := 0x2400, pc := 0x1003, cyc := 10 }) := by decide

/-- CALL* (0xFD) = CALL (R209). -/
theorem test_call_dup_a16_1 :
    let s := poke { base with sp := 0x2400 } [(0x1000, 0xFD), (0x1001, 0x00), (0x1002, 0x20)]
    nextOf (cpuStep s) = some (poke { s with sp := 0x23FE, pc := 0x2000, cyc := 17 } [(0x23FE, 0x03), (0x23FF, 0x10)]) := by decide

/-- jump to itself: PC unchanged (90_conflicts.md C2) (R200). -/
theorem test_jmp_a16_2 :
    let s := poke base [(0x1000, 0xC3), (0x1001, 0x00), (0x1002, 0x10)]
    nextOf (cpuStep s) = some ({ s with cyc := 10 }) := by decide

/-- PUSH B: C at SP (R231). -/
theorem test_push_b_1 :
    let s := poke { base with b := 0x12, c := 0x34, sp := 0x2400 } [(0x1000, 0xC5)]
    nextOf (cpuStep s) = some (poke { s with sp := 0x23FE, pc := 0x1001, cyc := 11 } [(0x23FE, 0x34), (0x23FF, 0x12)]) := by decide

/-- POP D (R233). -/
theorem test_pop_d_1 :
    let s := poke { base with sp := 0x23FE } [(0x1000, 0xD1), (0x23FE, 0x34), (0x23FF, 0x12)]
    nextOf (cpuStep s) = some ({ s with d := 0x12, e := 0x34, sp := 0x2400, pc := 0x1001, cyc := 10 }) := by decide

/-- PUSH PSW: F at SP, A at SP+1 (R232). -/
theorem test_push_psw_1 :
    let s := poke { base with a := 0x80, flags := Flags.unpack 0x83, sp := 0x2400 } [(0x1000, 0xF5)]
    nextOf (cpuStep s) = some (poke { s with sp := 0x23FE, pc := 0x1001, cyc := 11 } [(0x23FE, 0x83), (0x23FF, 0x80)]) := by decide

/-- POP PSW: F masked to 0xD7 (R234). -/
theorem test_pop_psw_1 :
    let s := poke { base with sp := 0x23FE } [(0x1000, 0xF1), (0x23FE, 0xFF), (0x23FF, 0xFF)]
    nextOf (cpuStep s) = some ({ s with a := 0xFF, flags := Flags.unpack 0xD7, sp := 0x2400, pc := 0x1001, cyc := 10 }) := by decide

/-- POP PSW: F forced to 0x02 (R234). -/
theorem test_pop_psw_2 :
    let s := poke { base with sp := 0x23FE, flags := Flags.unpack 0xD7 } [(0x1000, 0xF1), (0x23FE, 0x00), (0x23FF, 0x00)]
    nextOf (cpuStep s) = some ({ s with flags := Flags.unpack 0x02, sp := 0x2400, pc := 0x1001, cyc := 10 }) := by decide

/-- XTHL (R235). -/
theorem test_xthl_1 :
    let s := poke { base with h := 0x12, l := 0x34, sp := 0x23FE } [(0x1000, 0xE3), (0x23FE, 0x78), (0x23FF, 0x56)]
    nextOf (cpuStep s) = some (poke { s with h := 0x56, l := 0x78, pc := 0x1001, cyc := 18 } [(0x23FE, 0x34), (0x23FF, 0x12)]) := by decide

/-- SPHL (R236). -/
theorem test_sphl_1 :
    let s := poke { base with h := 0x24, l := 0x00 } [(0x1000, 0xF9)]
    nextOf (cpuStep s) = some ({ s with sp := 0x2400, pc := 0x1001, cyc := 5 }) := by decide

/-- NOP (R240). -/
theorem test_nop_1 :
    let s := poke base [(0x1000, 0x00)]
    nextOf (cpuStep s) = some ({ s with pc := 0x1001, cyc := 4 }) := by decide

/-- NOP* (0x38) (R241). -/
theorem test_nop_dup_1 :
    let s := poke base [(0x1000, 0x38)]
    nextOf (cpuStep s) = some ({ s with pc := 0x1001, cyc := 4 }) := by decide

/-- EI (R242). -/
theorem test_ei_1 :
    let s := poke base [(0x1000, 0xFB)]
    nextOf (cpuStep s) = some ({ s with pc := 0x1001, ie := true, cyc := 4 }) := by decide

/-- DI (R243). -/
theorem test_di_1 :
    let s := poke { base with ie := true } [(0x1000, 0xF3)]
    nextOf (cpuStep s) = some ({ s with pc := 0x1001, ie := false, cyc := 4 }) := by decide

/-- HLT: PC+1, run ends (92_eei_decisions.md D2) (R244). -/
theorem test_hlt_1 :
    let s := poke base [(0x1000, 0x76)]
    nextOf (cpuStep s) = some ({ s with pc := 0x1001, running := false, cyc := 7 }) := by decide

/-- XTHL at SP=FFFF wraps to 0x0000 (R235). -/
theorem test_xthl_2 :
    let s := poke { base with h := 0x12, l := 0x34, sp := 0xFFFF } [(0x1000, 0xE3), (0xFFFF, 0x78), (0x0000, 0x56)]
    nextOf (cpuStep s) = some (poke { s with h := 0x56, l := 0x78, pc := 0x1001, cyc := 18 } [(0x0000, 0x12), (0xFFFF, 0x34)]) := by decide

/-- PUSH at SP=0000 wraps (R231). -/
theorem test_push_b_2 :
    let s := poke { base with b := 0xAB, c := 0xCD, sp := 0x0000 } [(0x1000, 0xC5)]
    nextOf (cpuStep s) = some (poke { s with sp := 0xFFFE, pc := 0x1001, cyc := 11 } [(0xFFFE, 0xCD), (0xFFFF, 0xAB)]) := by decide

/-- POP at SP=FFFF wraps (R233). -/
theorem test_pop_b_1 :
    let s := poke { base with sp := 0xFFFF } [(0x1000, 0xC1), (0xFFFF, 0x34), (0x0000, 0x12)]
    nextOf (cpuStep s) = some ({ s with b := 0x12, c := 0x34, sp := 0x0001, pc := 0x1001, cyc := 10 }) := by decide

/-- PUSH PSW at SP=0000: F as stored (10_state.md rule R27), push wraps (R232). -/
theorem test_push_psw_2 :
    let s := poke { base with a := 0xFF, flags := Flags.unpack 0xD7 } [(0x1000, 0xF5)]
    nextOf (cpuStep s) = some (poke { s with sp := 0xFFFE, pc := 0x1001, cyc := 11 } [(0xFFFE, 0xD7), (0xFFFF, 0xFF)]) := by decide

/-- INX SP wraps (R156). -/
theorem test_inx_sp_1 :
    let s := poke { base with sp := 0xFFFF } [(0x1000, 0x33)]
    nextOf (cpuStep s) = some ({ s with sp := 0x0000, pc := 0x1001, cyc := 5 }) := by decide

/-- RST 0 at 0x0000: pushes 0x0001, PC stays 0000 (90_conflicts.md C2) (R206). -/
theorem test_rst_0_1 :
    let s := poke { base with sp := 0x2400, pc := 0x0000 } [(0x0000, 0xC7)]
    nextOf (cpuStep s) = some (poke { s with sp := 0x23FE, cyc := 11 } [(0x23FE, 0x01)]) := by decide

/-- RNC taken (R205). -/
theorem test_rnc_1 :
    let s := poke { base with sp := 0x23FE, flags := Flags.unpack 0x02 } [(0x1000, 0xD0), (0x23FE, 0x03), (0x23FF, 0x10)]
    nextOf (cpuStep s) = some ({ s with sp := 0x2400, pc := 0x1003, cyc := 11 }) := by decide

/-- RPO not taken (P=1) (R205). -/
theorem test_rpo_1 :
    let s := poke { base with sp := 0x23FE, flags := Flags.unpack 0x06 } [(0x1000, 0xE0), (0x23FE, 0x03), (0x23FF, 0x10)]
    nextOf (cpuStep s) = some ({ s with pc := 0x1001, cyc := 5 }) := by decide

/-- JP not taken (S=1) (R201). -/
theorem test_jp_a16_1 :
    let s := poke { base with flags := Flags.unpack 0x82 } [(0x1000, 0xF2), (0x1001, 0x00), (0x1002, 0x20)]
    nextOf (cpuStep s) = some ({ s with pc := 0x1003, cyc := 10 }) := by decide

/-- CNC taken (R203). -/
theorem test_cnc_a16_1 :
    let s := poke { base with sp := 0x2400, flags := Flags.unpack 0x02 } [(0x1000, 0xD4), (0x1001, 0x00), (0x1002, 0x20)]
    nextOf (cpuStep s) = some (poke { s with sp := 0x23FE, pc := 0x2000, cyc := 17 } [(0x23FE, 0x03), (0x23FF, 0x10)]) := by decide

/-- CPE not taken (R203). -/
theorem test_cpe_a16_1 :
    let s := poke { base with sp := 0x2400, flags := Flags.unpack 0x02 } [(0x1000, 0xEC), (0x1001, 0x00), (0x1002, 0x20)]
    nextOf (cpuStep s) = some ({ s with pc := 0x1003, cyc := 11 }) := by decide

/-- CM taken (R203). -/
theorem test_cm_a16_1 :
    let s := poke { base with sp := 0x2400, flags := Flags.unpack 0x82 } [(0x1000, 0xFC), (0x1001, 0x00), (0x1002, 0x20)]
    nextOf (cpuStep s) = some (poke { s with sp := 0x23FE, pc := 0x2000, cyc := 17 } [(0x23FE, 0x03), (0x23FF, 0x10)]) := by decide

/-- NOP at FFFF: PC wraps to 0000 (R240). -/
theorem test_nop_2 :
    let s := poke { base with pc := 0xFFFF } [(0xFFFF, 0x00)]
    nextOf (cpuStep s) = some ({ s with pc := 0x0000, cyc := 4 }) := by decide

/-- MVI A at FFFF: operand at 0000 (R103). -/
theorem test_mvi_a_d8_1 :
    let s := poke { base with pc := 0xFFFF } [(0xFFFF, 0x3E), (0x0000, 0x42)]
    nextOf (cpuStep s) = some ({ s with a := 0x42, pc := 0x0001, cyc := 7 }) := by decide

/-- SBB A with CY=1 (R149). -/
theorem test_sbb_a_1 :
    let s := poke { base with a := 0x00, flags := Flags.unpack 0x03 } [(0x1000, 0x9F)]
    nextOf (cpuStep s) = some ({ s with a := 0xFF, flags := Flags.unpack 0x87, pc := 0x1001, cyc := 4 }) := by decide

/-- ADC A with CY=1 (R143). -/
theorem test_adc_a_1 :
    let s := poke { base with a := 0x80, flags := Flags.unpack 0x03 } [(0x1000, 0x8F)]
    nextOf (cpuStep s) = some ({ s with a := 0x01, pc := 0x1001, cyc := 4 }) := by decide

/-- CMP A: Z=1 and AC=1 (R179). -/
theorem test_cmp_a_1 :
    let s := poke { base with a := 0x42 } [(0x1000, 0xBF)]
    nextOf (cpuStep s) = some ({ s with flags := Flags.unpack 0x56, pc := 0x1001, cyc := 4 }) := by decide

/-- INR M wraps (R153). -/
theorem test_inr_m_1 :
    let s := poke { base with h := 0x20 } [(0x1000, 0x34), (0x2000, 0xFF)]
    nextOf (cpuStep s) = some (poke { s with flags := Flags.unpack 0x56, pc := 0x1001, cyc := 10 } [(0x2000, 0x00)]) := by decide

/-- MOV M,A to 0x0000: the ROM region is not write-protected (20_memory.md rule R63) (R102). -/
theorem test_mov_m_a_1 :
    let s := poke { base with a := 0x11, h := 0x00, l := 0x00 } [(0x1000, 0x77)]
    nextOf (cpuStep s) = some (poke { s with pc := 0x1001, cyc := 7 } [(0x0000, 0x11)]) := by decide

/-- DAD B carry (R158). -/
theorem test_dad_b_1 :
    let s := poke { base with b := 0xFF, c := 0xFF, h := 0x00, l := 0x01 } [(0x1000, 0x09)]
    nextOf (cpuStep s) = some ({ s with flags := Flags.unpack 0x03, l := 0x00, pc := 0x1001, cyc := 10 }) := by decide

/-- DAD D clears CY (R158). -/
theorem test_dad_d_1 :
    let s := poke { base with d := 0x12, e := 0x34, h := 0x11, l := 0x11, flags := Flags.unpack 0x03 } [(0x1000, 0x19)]
    nextOf (cpuStep s) = some ({ s with flags := Flags.unpack 0x02, h := 0x23, l := 0x45, pc := 0x1001, cyc := 10 }) := by decide

/-- IN 3 with SO = 3 (R263), and IN 7 leaves A (R264). -/
theorem test_in_shift_window :
    (nextOf (exec (.inPort 3) { base with sr := 0xCDAB, so := 3 })).map (fun t => (t.a, t.pc)) = some (0x6D, 0x1002) := by decide
theorem test_in_unmapped : (nextOf (exec (.inPort 7) { base with a := 0x3C })).map (fun t => (t.a, t.pc)) = some (0x3C, 0x1002) := by decide

/-- OUT 3 from prev 0x0F: bit 0 falls, bit 4 has no sound (R268). -/
theorem test_out_sound_bank :
    (nextOf (exec (.outPort 3) { base with a := 0x12, ioPorts := base.ioPorts.set 3 0x0F, loops := [⟨.port3, 0⟩] })).map
      (fun t => (t.soundEvents, t.ioPorts[3], t.loops)) = some ([.stopLoop ⟨.port3, 0⟩], 0x12, []) := by decide

/-- CPM OUT 1 with C = 9 (R272). -/
theorem test_out_console_string :
    (nextOf (exec (.outPort 1) (poke { base with mode := .cpm, c := 9, d := 0x20 } [(0x2000, 0x4F), (0x2001, 0x4B), (0x2002, 0x24)]))).map
      (fun t => (t.outStream, t.pc)) = some ([0x4F, 0x4B], 0x1002) := by decide

/-! ### Interrupts, video, host events, launch (95_test_vectors.md 2.8 to 2.11) -/

/-- I4: the push wraps. -/
theorem test_interrupt_push_wraps :
    let s : State := { base with ie := true, pc := 0x1234 }
    requestInterrupt 1 s = poke { s with ie := false, sp := 0xFFFE, pc := 0x0008 } [(0xFFFE, 0x34), (0xFFFF, 0x12)] := by decide

/-- I3: a request with IE = 0 is discarded. -/
theorem test_interrupt_discarded : requestInterrupt 1 { base with pc := 0x1234 } = { base with pc := 0x1234 } := by decide

/-- The addresses, bits and PROM entries of 95_test_vectors.md 2.9. -/
theorem test_vram_addresses :
    [(0, 0), (0, 7), (0, 248), (0, 255), (1, 0), (223, 0), (223, 255), (100, 127), (100, 128), (104, 240)].map
        (fun p : Nat × Nat => (vramAddr p.1 p.2, 7 - p.2 % 8, promIndex p.1 p.2)) =
      [(0x241F, 7, 159), (0x241F, 0, 159), (0x2400, 7, 128), (0x2400, 0, 128), (0x243F, 7, 159), (0x3FFF, 7, 1023), (0x3FE0, 0, 992),
        (0x3090, 0, 528), (0x308F, 7, 527), (0x3101, 7, 545)] := by decide

/-- The colours of a PROM entry: nothing, red, blue, green, red and green, all, and bits 3 to 7 ignored. -/
theorem test_prom_colours :
    ([0x00, 0x01, 0x02, 0x04, 0x05, 0x07, 0xF8] : List Byte).map promColour =
      [0xFF000000, 0xFFFF0000, 0xFF0000FF, 0xFF00FF00, 0xFFFFFF00, 0xFFFFFFFF, 0xFF000000] := by decide

/-- The overlay r1, r2 of 2.9: half-open bounds, white where none covers. -/
theorem test_overlay_colours :
    [(0, 32), (223, 63), (10, 64), (5, 200), (5, 240), (0, 0)].map
        (fun p : Nat × Nat => lutEntry (.overlay [⟨0, 0, 32, 64, 0xFFFF0000⟩, ⟨0, 0, 184, 240, 0xFF00FF00⟩]) p.1 p.2) =
      [0xFFFF0000, 0xFFFF0000, 0xFFFFFFFF, 0xFF00FF00, 0xFFFFFFFF, 0xFFFFFFFF] := by decide

/-- R326: a rectangle colour given with alpha 0x00 or 0x80 is written with alpha 0xFF (log entry 20). -/
theorem test_overlay_alpha :
    lutEntry (.overlay [⟨0, 0, 0, 0, 0x00000000⟩]) 0 0 = 0xFF000000 ∧ lutEntry (.overlay [⟨0, 0, 0, 0, 0x80123456⟩]) 0 0 = 0xFF123456 := by
  decide

/-- The overlay r3, r4 of 2.9 is a CONFIG_ERROR; r1, r2 are accepted. -/
theorem test_overlay_check :
    checkScheme (.overlay [⟨16, 134, 240, 256, 0xFFFF0000⟩, ⟨100, 120, 250, 256, 0xFF00FF00⟩]) = .error .overlappingOverlays ∧
    checkScheme (.overlay [⟨0, 0, 32, 64, 0xFFFF0000⟩, ⟨0, 0, 184, 240, 0xFF00FF00⟩]) = .ok () := by decide

/-- H1 and H2: SendInput sets and clears one bit. -/
theorem test_sendInput :
    (nextOf (applyEvents [.sendInput 1 3 true, .sendInput 1 0 true, .sendInput 1 3 false] base)).map (fun t => t.ioPorts[1]) = some 0x01 := by
  decide

/-- H6: what LoadState restores and what it keeps. -/
theorem test_save_and_load :
    let s : State := poke { base with a := 0x55 } [(0x2000, 0xAA)]
    (nextOf (applyEvent (.load 0) { base with saves := [saveState s], startY := .bottom, paused := true, acc := 9 })).map
        (fun t => (t.a, t.readByte 0x2000, t.startY, t.paused, t.acc)) = some (0x55, 0xAA, .bottom, true, 9) := by decide

/-- R342: the coin key, and player 2's fire key on port 2. -/
theorem test_key_binding :
    keyEvent .coin true = .sendInput 1 0 true ∧ keyEvent (.fire true) false = .sendInput 2 4 false := by decide

/-- The launch with the parameters of log entry 1 gives the memory, the PC and the registers of State.reset. -/
theorem test_launch_default :
    (match launch defaultParams with | .ok s => some (s.pc, s.f, s.mem.length) | .error _ => none) =
      some (0x0000, 0x02, 0) := by decide

/-- A CPM launch loads at 0x0100 and writes the patch (R355, R356). -/
theorem test_launch_cpm :
    (match launch { defaultParams with mode := .cpm, image := .flat (.data [0x76]) } with | .ok s => some (s.mem, s.pc) | .error _ => none) =
      some ([(0, 0xD3), (5, 0xD3), (6, 0x01), (7, 0xC9), (256, 0x76)], 0x0100) := by decide

/-- A part of the wrong size and a missing part stop the launch (R301, R355). -/
theorem test_launch_errors :
    loadPart ⟨0, 2, .data [0x00]⟩ [] = .error .sizeMismatch ∧ loadPart ⟨0, 2, .missing⟩ [] = .error .missingRom ∧
    loadPart ⟨0xFFFF, 2, .data [0x00, 0x00]⟩ [] = .error .imagePastTop := by decide

/-! ### Witnesses: the hypotheses of each obligation are met, and each clause at its bounds -/

/-- A conditional's condition holds in one state and fails in another, for every condition. -/
theorem witness_conditions :
    ∀ cc ∈ [Cond.nz, .z, .nc, .c, .po, .pe, .p, .m], (∃ v ∈ ([0x02, 0xD7] : List Byte), condHolds cc (Flags.unpack v) = true) ∧
      ∃ v ∈ ([0x02, 0xD7] : List Byte), condHolds cc (Flags.unpack v) = false := by decide

/-- EncodeOfDecodeIsTheBytes. -/
theorem witness_EncodeOfDecodeIsTheBytes : decode [0xC3, 0x34, 0x12, 0x99] = .ok (.jmp 0x1234, [0x99]) := by decide

/-- EveryOpcodeIsDefinedWithItsLength: an opcode of each length. -/
theorem witness_EveryOpcodeIsDefinedWithItsLength : ([0x00, 0x06, 0xFD] : List Byte).map opcodeLength = [1, 2, 3] := by decide

/-- StepRunsTheDecodedInstruction, also where the operand bytes wrap. -/
theorem witness_StepRunsTheDecodedInstruction :
    let s := poke { base with pc := 0xFFFE } [(0xFFFE, 0xC3), (0xFFFF, 0x34), (0x0000, 0x12)]
    s.running = true ∧ s.shutdown = false ∧ (s.throttled && s.paused) = false ∧
    decode [s.readByte s.pc, s.readByte (s.pc + 1), s.readByte (s.pc + 2)] = .ok (.jmp 0x1234, []) := by decide

/-- LoadPairImmediate and IncrementAndDecrementPair: a pair that is not SP. -/
theorem witness_pair_not_sp : Pair.hl ≠ .sp := by decide

/-- HaltEndsTheRun. -/
theorem witness_HaltEndsTheRun :
    let s := poke { base with ie := true } [(0x1000, 0x76)]
    s.running = true ∧ s.shutdown = false ∧ (s.throttled && s.paused) = false ∧ s.readByte s.pc = 0x76 := by decide

/-- InputReadsThePort: every port of its own clause, and the bounds 4 and 255. -/
theorem witness_InputReadsThePort :
    ([0, 1, 2, 3, 4, 255] : List Byte).map (fun p => (nextOf (exec (.inPort p)
        { base with a := 0xA5, sr := 0xFFFF, ioPorts := ((base.ioPorts.set 0 0x10).set 1 0x11).set 2 0x12 })).map (fun t => t.a)) =
      [some 0x10, some 0x11, some 0x12, some 0xFF, some 0xA5, some 0xA5] := by decide

/-- IgnoredOutputs: the bounds of both clauses. -/
theorem witness_IgnoredOutputs :
    base.mode = .arcade ∧
    ([0, 1, 6, 255] : List Byte).map (fun p => decide (6 ≤ p.toNat ∨ (p.toNat ≤ 1 ∧ base.mode = .arcade))) = [true, true, true, true] := by decide

/-- ConsoleStubOfCpm: C = 2 and any other C. -/
theorem witness_ConsoleStubOfCpm_byte :
    let s : State := { base with mode := .cpm, c := 2, e := 0x41 }
    s.mode = .cpm ∧ s.c = 2 ∧ (nextOf (exec (.outPort 1) s)).map (fun t => t.outStream) = some [0x41] ∧
    (nextOf (exec (.outPort 1) { s with c := 5 })).map (fun t => t.outStream) = some [] := by decide

/-- ConsoleStubOfCpm: the empty string, `n = 0`. -/
theorem witness_ConsoleStubOfCpm_empty :
    let s := poke { base with mode := .cpm, c := 9 } [(0x0000, 0x24)]
    s.mode = .cpm ∧ s.c = 9 ∧ s.readByte (Word.ofBytes s.d s.e + BitVec.ofNat 16 0) = 0x24 := by decide

/-- ConsoleStubOfCpm: the longest string, `n = 65535`. -/
theorem witness_ConsoleStubOfCpm_longest :
    let s : State := { base with mode := .cpm, c := 9, mem := [(65535, 0x24)] }
    s.mode = .cpm ∧ s.c = 9 ∧ s.readByte (Word.ofBytes s.d s.e + BitVec.ofNat 16 65535) = 0x24 ∧
    ∀ k : Nat, k < 65535 → s.readByte (Word.ofBytes s.d s.e + BitVec.ofNat 16 k) ≠ 0x24 := by
  refine ⟨rfl, rfl, by decide, fun k hk => ?_⟩
  have hz : Word.ofBytes (0x00 : Byte) 0x00 = 0 := by decide
  have hr : ∀ x : Word, x.toNat ≠ 65535 → Memory.read [(65535, 0x24)] x = 0x00 := by
    intro x hx
    unfold Memory.read cellsRead
    rw [if_neg (fun h => hx h.symm)]
    rfl
  show Memory.read [(65535, 0x24)] (Word.ofBytes 0x00 0x00 + BitVec.ofNat 16 k) ≠ 0x24
  rw [hz, hr _ (by simp; omega)]
  decide

/-- ConsoleStubOfCpm and EveryInstructionCompletesButOneCorner: no byte of memory is '$'. -/
theorem witness_unterminated :
    let s : State := { base with mode := .cpm, c := 9 }
    s.mode = .cpm ∧ s.c = 9 ∧ ∀ x : Word, s.readByte x ≠ 0x24 := by
  refine ⟨rfl, rfl, fun x => ?_⟩
  show (0x00 : Byte) ≠ 0x24
  decide

/-- CycGrowsByFourToEighteen, OnlyFlagInstructionsWriteFlags, PcAdvancesUnlessTransferred, ControlStateHasItsOwnWriters: an instruction
that answers a next state, writes no flag and transfers nothing, at the least and the largest count. -/
theorem witness_plain_instructions :
    (nextOf (exec .nop base)).map (fun t => t.cyc) = some 4 ∧ (nextOf (exec .xthl base)).map (fun t => t.cyc) = some 18 ∧
    opcodeWritesFlags (Instr.opcode .nop) = false ∧ opcodeTransfers (Instr.opcode .nop) = false ∧
    opcodeWritesFlags (Instr.opcode .xthl) = false ∧ opcodeTransfers (Instr.opcode .xthl) = false ∧
    (Instr.nop ≠ .ei ∧ Instr.nop ≠ .di ∧ Instr.nop ≠ .hlt ∧ Instr.nop ≠ .outPort 0) := by decide

/-- The flag writers are the ones of 10_state.md R28, and the transfers the ones of R26: how many opcodes each has. -/
theorem witness_opcode_classes :
    ((List.range 256).filter (fun k => opcodeWritesFlags (BitVec.ofNat 8 k))).length = 72 + 16 + 4 + 4 + 4 ∧
    ((List.range 256).filter (fun k => opcodeTransfers (BitVec.ofNat 8 k))).length = 9 + 24 + 8 := by decide

/-- InterruptIsTakenOrDiscarded and InterruptComparesWithRestart: both values of IE. -/
theorem witness_interrupts : base.ie = false ∧ ({ base with ie := true } : State).ie = true := by decide

/-- VideoStepScansOneHalf and LutHoldsTheColoursOfTheScheme: the corner pixels, and both halves. -/
theorem witness_pixels :
    (0 < 224 ∧ 0 < 256) ∧ (223 < 224 ∧ 255 < 256) ∧ Half.firstRow .top + 127 < Half.firstRow .bottom ∧ Half.firstRow .bottom + 127 = 255 := by
  decide

/-- LutHoldsTheColoursOfTheScheme: a pixel that no rectangle covers, one that a rectangle does, with alpha 0xFF, and a PROM of its size. -/
theorem witness_LutHoldsTheColoursOfTheScheme :
    let r : Rect := ⟨0, 0, 32, 64, 0xFFFF0000⟩
    [r].find? (fun q => rectCovers q 5 31) = none ∧ [r].find? (fun q => rectCovers q 5 32) = some r ∧
    r.colour.extractLsb' 24 8 = 0xFF ∧ (List.replicate 1024 (0x05 : Byte)).length = 1024 := by
  refine ⟨by decide, by decide, by decide, ?_⟩
  rw [List.length_replicate]

/-- FrameEndsAtTheBudget: inside a frame, and on its last step at both ends of its range. -/
theorem witness_FrameEndsAtTheBudget :
    let s := poke base [(0x1000, 0xE3)]
    s.live = true ∧ s.acc < 33333 ∧ (nextOf (cpuStep s)).map (fun t => (t.running, t.cyc)) = some (true, 18) ∧
    0 + 18 < 33333 ∧ 33333 ≤ 33315 + 18 ∧ 33315 < 33333 ∧ 33332 < 33333 ∧ 33332 + 18 ≤ 33350 := by decide

/-- EndOfTheRun: a live state whose instruction stops the CPU, a stopped state and a shut-down one. -/
theorem witness_EndOfTheRun :
    let s := poke { base with acc := 500 } [(0x1000, 0x76)]
    s.live = true ∧ (nextOf (cpuStep s)).map (fun t => t.running) = some false ∧ (nextOf (step s)).map (fun t => (t.acc, t.startY)) = some (507, .top) ∧
    ({ base with running := false } : State).running = false ∧ ({ base with shutdown := true } : State).shutdown = true := by decide

/-- PausedTickRunsNoCpuStep: held with no batch to come, held with the batch that ends the pause, and unthrottled with a CPU step. -/
theorem witness_PausedTickRunsNoCpuStep :
    let s : State := { base with throttled := true, paused := true }
    s.running = true ∧ s.shutdown = false ∧ s.throttled = true ∧ s.paused = true ∧ s.schedule = [] ∧
    ({ s with schedule := [[.togglePause], [.save]] } : State).schedule = [.togglePause] :: [[.save]] ∧
    base.running = true ∧ base.shutdown = false ∧ base.throttled = false ∧
    (nextOf (cpuStep { base with paused := true })).isSome = true := by decide

/-- The LUT of no scheme lists nothing. -/
theorem lutOf_none : lutOf .none = [] := by
  show renderRange _ _ _ _ = []
  rw [renderRange_eq, List.filterMap_eq_nil_iff]
  intro k _
  rfl

/-- EveryStepKeepsTheInvariant: a state that meets the invariant and steps. -/
theorem witness_EveryStepKeepsTheInvariant :
    State.Inv { base with mem := [(0x1000, 0x34)], acc := 33000 } ∧
    (nextOf (step { base with mem := [(0x1000, 0x34)], acc := 33000 })).isSome = true := by
  refine ⟨⟨by decide, (by intro snap h; cases h), by decide, ?_, .inl (by decide), List.nodup_nil,
    (by intro cell h; cases h)⟩, by decide⟩
  show ([] : Screen) = lutOf .none
  rw [lutOf_none]

/-- LaunchPreparesTheRun: launches that succeed, in both modes, with a flat image and with a descriptor, with a snapshot of an earlier run,
and a flat image at and past the top. -/
theorem witness_LaunchPreparesTheRun :
    (∃ s, launch defaultParams = .ok s) ∧ (∃ s, launch { defaultParams with mode := .cpm } = .ok s) ∧
    (∃ s, launch { defaultParams with image := .parts [⟨0, 1, .data [0x76]⟩], saves := [saveState base] } = .ok s) ∧
    (saveState base).mem.wf = true ∧
    (Config.initialPc .cpm).toNat + (List.replicate 65280 (0x00 : Byte)).length ≤ 65536 ∧
    65536 < (Config.initialPc .cpm).toNat + (List.replicate 65281 (0x00 : Byte)).length := by
  refine ⟨⟨_, rfl⟩, ⟨_, rfl⟩, ⟨_, rfl⟩, rfl, ?_, ?_⟩
  · rw [List.length_replicate]
    decide
  · rw [List.length_replicate]
    decide

/-- LaunchPreparesTheRun: of two parts that overlap the later one gives the byte, an address of no part reads 0x00, and an address may be
outside the patch. -/
theorem witness_partsByte :
    let parts : List RomPart := [⟨0x10, 2, .data [0xAA, 0xBB]⟩, ⟨0x11, 1, .data [0xCC]⟩]
    [0x0F, 0x10, 0x11, 0x12].map (partsByte parts) = [0x00, 0xAA, 0xCC, 0x00] ∧
    (match launch { defaultParams with image := .parts parts } with | .ok s => some s.mem | .error _ => none) =
      some [(0x10, 0xAA), (0x11, 0xCC)] ∧
    (0x0002 : Word) ∉ patchAddrs := by decide

/-- LaunchPreparesTheRun: a part that loads at the very top, and one part for each cause. -/
theorem witness_parts :
    PartAccepted ⟨0xFFFF, 1, .data [0x00]⟩ ∧ PartRejected ⟨0xFFFF, 2, .data [0x00, 0x00]⟩ .imagePastTop ∧
    PartRejected ⟨0, 2, .data [0x00]⟩ .sizeMismatch ∧ PartRejected ⟨0, 2, .missing⟩ .missingRom ∧ PartRejected ⟨0, 2, .bad⟩ .badZipMember :=
  ⟨⟨_, rfl, rfl, by decide⟩, ⟨_, rfl, rfl, by decide⟩, ⟨_, rfl, by decide⟩, rfl, rfl⟩

/-- LaunchPreparesTheRun: an accepted image with an accepted scheme, with overlays that share one pixel, and with PROMs of 1024 and 1023
bytes. -/
theorem witness_schemes :
    ImageAccepted .arcade (.flat (.data [])) ∧ SchemeAccepted (.overlay [⟨0, 10, 0, 10, 0xFF0000FF⟩, ⟨10, 20, 0, 10, 0xFF00FF00⟩]) ∧
    ¬SchemeAccepted (.overlay [⟨0, 10, 0, 10, 0xFF0000FF⟩, ⟨9, 20, 9, 10, 0xFF00FF00⟩]) ∧
    SchemeAccepted (.prom (List.replicate 1024 0x00)) ∧ ¬SchemeAccepted (.prom (List.replicate 1023 0x00)) := by
  refine ⟨⟨[], rfl, by decide⟩, (anyOverlap_iff _).mp (by decide), ?_, ?_, ?_⟩
  · intro h
    have hf : anyOverlap [⟨0, 10, 0, 10, 0xFF0000FF⟩, ⟨9, 20, 9, 10, 0xFF00FF00⟩] = false := (anyOverlap_iff _).mpr h
    have ht : anyOverlap [⟨0, 10, 0, 10, 0xFF0000FF⟩, ⟨9, 20, 9, 10, 0xFF00FF00⟩] = true := by decide
    rw [hf] at ht
    cases ht
  · show (List.replicate 1024 (0x00 : Byte)).length = 1024
    rw [List.length_replicate]
  · show ¬ (List.replicate 1023 (0x00 : Byte)).length = 1024
    rw [List.length_replicate]
    decide

/-- SaveThenLoadRestoresExactlyTheSavedFields. -/
theorem witness_SaveThenLoad : base.shutdown = false := by decide

/-- HostInputsResetAndRefusals: in range at the bounds, out of range on either side, a load with its save and one without. -/
theorem witness_HostInputsResetAndRefusals :
    (7 < 8 ∧ 7 < 8) ∧ ¬ (8 < 8 ∧ 0 < 8) ∧ ¬ (0 < 8 ∧ 8 < 8) ∧ base.saves.length ≤ 0 ∧
    ({ base with saves := [saveState base] } : State).saves[0]? = some (saveState base) := by decide

/-- HostInputsResetAndRefusals: a boundary with a batch and one with none, first events that go on, that fault and that are refused. -/
theorem witness_batches :
    ({ base with schedule := [[.save], [.reset]] } : State).schedule = [.save] :: [[.reset]] ∧ base.schedule = [] ∧
    (nextOf (applyEvents [.togglePause] base)).map (fun t => (t.paused, t.shutdown)) = some (true, false) ∧
    applyEvents [.loadCorrupt] base = .fault .corruptSaveState ∧ applyEvents [.load 0] base = .refused .loadWithoutSave ∧
    (nextOf (applyEvents ([.togglePause] ++ [.togglePause]) base)).map (fun t => t.paused) = some false :=
  ⟨rfl, rfl, by decide, rfl, rfl, by decide⟩

end Sys2Proof.Tests
end

section
/-! PROOFS. What every instruction does to PC and CYC (spec/00_scope.md R12, 10_state.md R26, R30), form by form; O46 from it. -/

namespace Sys2Proof

/-! ### The length of each format with fields (30_encoding.md R80, R81) -/

theorem Instr.length_movReg (dst src : Reg) : (Instr.movReg dst src).length = 1 := by cases dst <;> cases src <;> rfl
theorem Instr.length_movFromM (dst : Reg) : (Instr.movFromM dst).length = 1 := by cases dst <;> rfl
theorem Instr.length_movToM (src : Reg) : (Instr.movToM src).length = 1 := by cases src <;> rfl
theorem Instr.length_mviReg (dst : Reg) (n : Byte) : (Instr.mviReg dst n).length = 2 := by cases dst <;> rfl
theorem Instr.length_inrReg (dst : Reg) : (Instr.inrReg dst).length = 1 := by cases dst <;> rfl
theorem Instr.length_dcrReg (dst : Reg) : (Instr.dcrReg dst).length = 1 := by cases dst <;> rfl
theorem Instr.length_aluReg (op : AluOp) (src : Reg) : (Instr.aluReg op src).length = 1 := by cases op <;> cases src <;> rfl
theorem Instr.length_aluM (op : AluOp) : (Instr.aluM op).length = 1 := by cases op <;> rfl
theorem Instr.length_aluImm (op : AluOp) (n : Byte) : (Instr.aluImm op n).length = 2 := by cases op <;> rfl
theorem Instr.length_lxi (p : Pair) (nn : Word) : (Instr.lxi p nn).length = 3 := by cases p <;> rfl
theorem Instr.length_dad (p : Pair) : (Instr.dad p).length = 1 := by cases p <;> rfl
theorem Instr.length_inx (p : Pair) : (Instr.inx p).length = 1 := by cases p <;> rfl
theorem Instr.length_dcx (p : Pair) : (Instr.dcx p).length = 1 := by cases p <;> rfl
theorem Instr.length_ldax (p : IndexPair) : (Instr.ldax p).length = 1 := by cases p <;> rfl
theorem Instr.length_stax (p : IndexPair) : (Instr.stax p).length = 1 := by cases p <;> rfl
theorem Instr.length_push (p : StackPair) : (Instr.push p).length = 1 := by cases p <;> rfl
theorem Instr.length_pop (p : StackPair) : (Instr.pop p).length = 1 := by cases p <;> rfl
theorem Instr.length_jcc (cc : Cond) (nn : Word) : (Instr.jcc cc nn).length = 3 := by cases cc <;> rfl
theorem Instr.length_ccc (cc : Cond) (nn : Word) : (Instr.ccc cc nn).length = 3 := by cases cc <;> rfl
theorem Instr.length_rcc (cc : Cond) : (Instr.rcc cc).length = 1 := by cases cc <;> rfl

/-! ### The formats that transfer control (10_state.md R26) -/

theorem Instr.opcode_jcc (cc : Cond) (nn : Word) : (Instr.jcc cc nn).opcode = BitVec.ofNat 8 (0xC2 + 8 * cc.number) := by cases cc <;> rfl
theorem Instr.opcode_ccc (cc : Cond) (nn : Word) : (Instr.ccc cc nn).opcode = BitVec.ofNat 8 (0xC4 + 8 * cc.number) := by cases cc <;> rfl

theorem opcodeTransfers_jcc (cc : Cond) (nn : Word) : opcodeTransfers (Instr.jcc cc nn).opcode = true := by
  rw [Instr.opcode_jcc]
  cases cc <;> decide

theorem opcodeTransfers_ccc (cc : Cond) (nn : Word) : opcodeTransfers (Instr.ccc cc nn).opcode = true := by
  rw [Instr.opcode_ccc]
  cases cc <;> decide

theorem opcodeTransfers_rcc (cc : Cond) : opcodeTransfers (Instr.rcc cc).opcode = true := by cases cc <;> decide

theorem opcodeTransfers_rst (n : BitVec 3) : opcodeTransfers (Instr.rst n).opcode = true := by
  have h : ∀ m : BitVec 3, opcodeTransfers (Instr.rst m).opcode = true := by decide
  exact h n

end Sys2Proof

namespace Sys2Proof.Machine

/-- How instruction `i` leaves PC and CYC when it goes from `s` to `t`: it takes 4 to 18 cycles, and PC is at the byte behind the
instruction or, for a control transfer only, somewhere else. -/
def MovesPcAndCyc (i : Instr) (s t : State) : Prop :=
  ∃ n : Nat, (4 ≤ n ∧ n ≤ 18) ∧
    (EndsAfter i.length n s t ∨ (opcodeTransfers i.opcode = true ∧ ∃ target : Word, WentTo target n s t))

section Shapes

variable {i : Instr} {s t u : State}

/-- An instruction whose outcome is an advance past its own length over a state with PC and CYC untouched. -/
theorem movesPcAndCyc_of_advance {k n : Nat} (h : exec i s = .next t) (hx : exec i s = .next (u.advance k n)) (hl : i.length = k)
    (hn : 4 ≤ n ∧ n ≤ 18 := by decide) (hp : u.pc = s.pc := by simp) (hc : u.cyc = s.cyc := by simp) : MovesPcAndCyc i s t := by
  obtain rfl : u.advance k n = t := Host.Outcome.next.inj (hx.symm.trans h)
  exact ⟨n, hn, .inl (hl ▸ endsAfter_advance s u k n hp hc)⟩

/-- A control transfer whose outcome is a jump over a state with CYC untouched. -/
theorem movesPcAndCyc_of_goto {target : Word} {n : Nat} (h : exec i s = .next t) (hx : exec i s = .next (u.goto target n))
    (ht : opcodeTransfers i.opcode = true) (hn : 4 ≤ n ∧ n ≤ 18 := by decide) (hc : u.cyc = s.cyc := by simp) : MovesPcAndCyc i s t := by
  obtain rfl : u.goto target n = t := Host.Outcome.next.inj (hx.symm.trans h)
  exact ⟨n, hn, .inr ⟨ht, target, wentTo_goto s u target n hc⟩⟩

end Shapes

/-- An OUT that completes is an advance over a state that differs from the old one in neither PC nor CYC (45_io_ports.md R265). -/
theorem outputTo_next {p : Byte} {s t : State} (h : outputTo p s = .next t) :
    ∃ u : State, t = u.advance 2 10 ∧ u.pc = s.pc ∧ u.cyc = s.cyc := by
  rcases outputTo_cases s p with hx | ⟨-, hx⟩ | ⟨bytes, hx⟩ | hx | hx | hx | hx | ⟨-, -, -, -, hx⟩
  all_goals rw [hx] at h; cases h
  all_goals exact ⟨_, rfl, rfl, rfl⟩

/-- Every instruction that completes either ends at the byte behind it or is a control transfer. -/
theorem exec_movesPcAndCyc (i : Instr) (s t : State) (h : exec i s = .next t) : MovesPcAndCyc i s t := by
  cases i using Instr.byForm with
  | movReg dst src => exact movesPcAndCyc_of_advance h (exec_movReg s dst src) (Instr.length_movReg dst src)
  | movFromM dst => exact movesPcAndCyc_of_advance h (exec_movFromM s dst) (Instr.length_movFromM dst)
  | movToM src => exact movesPcAndCyc_of_advance h (exec_movToM s src) (Instr.length_movToM src)
  | mviReg dst n => exact movesPcAndCyc_of_advance h (exec_mviReg s dst n) (Instr.length_mviReg dst n)
  | inrReg dst => exact movesPcAndCyc_of_advance h (exec_inrReg s dst) (Instr.length_inrReg dst)
  | dcrReg dst => exact movesPcAndCyc_of_advance h (exec_dcrReg s dst) (Instr.length_dcrReg dst)
  | aluReg op src => exact movesPcAndCyc_of_advance h (exec_aluReg s op src) (Instr.length_aluReg op src)
  | aluM op => exact movesPcAndCyc_of_advance h (exec_aluM s op) (Instr.length_aluM op)
  | aluImm op n => exact movesPcAndCyc_of_advance h (exec_aluImm s op n) (Instr.length_aluImm op n)
  | lxi p nn => exact movesPcAndCyc_of_advance h (exec_lxi s p nn) (Instr.length_lxi p nn)
  | dad p => exact movesPcAndCyc_of_advance h (exec_dad s p) (Instr.length_dad p)
  | inx p => exact movesPcAndCyc_of_advance h (exec_inx s p) (Instr.length_inx p)
  | dcx p => exact movesPcAndCyc_of_advance h (exec_dcx s p) (Instr.length_dcx p)
  | ldax p => exact movesPcAndCyc_of_advance h (exec_ldax s p) (Instr.length_ldax p)
  | stax p => exact movesPcAndCyc_of_advance h (exec_stax s p) (Instr.length_stax p)
  | push p => exact movesPcAndCyc_of_advance h (exec_push s p) (Instr.length_push p)
  | pop p => exact movesPcAndCyc_of_advance h (exec_pop s p) (Instr.length_pop p)
  | jcc cc nn =>
    by_cases hcc : condHolds cc s.flags = true
    · exact movesPcAndCyc_of_goto h ((exec_jcc s cc nn).trans (if_pos hcc)) (opcodeTransfers_jcc cc nn)
    · exact movesPcAndCyc_of_advance h ((exec_jcc s cc nn).trans (if_neg hcc)) (Instr.length_jcc cc nn)
  | ccc cc nn =>
    by_cases hcc : condHolds cc s.flags = true
    · exact movesPcAndCyc_of_goto h ((exec_ccc s cc nn).trans (if_pos hcc)) (opcodeTransfers_ccc cc nn)
    · exact movesPcAndCyc_of_advance h ((exec_ccc s cc nn).trans (if_neg hcc)) (Instr.length_ccc cc nn)
  | rcc cc =>
    by_cases hcc : condHolds cc s.flags = true
    · exact movesPcAndCyc_of_goto h ((exec_rcc s cc).trans (if_pos hcc)) (opcodeTransfers_rcc cc)
    · exact movesPcAndCyc_of_advance h ((exec_rcc s cc).trans (if_neg hcc)) (Instr.length_rcc cc)
  | rst n => exact movesPcAndCyc_of_goto h (exec_rst s n) (opcodeTransfers_rst n)
  | outPort n =>
    obtain ⟨u, rfl, hpc, hcyc⟩ := outputTo_next (p := n) h
    exact movesPcAndCyc_of_advance h h rfl (hp := hpc) (hc := hcyc)
  | inPort n =>
    rcases inputFrom_cases s n with ⟨v, hx⟩ | hx
    · exact movesPcAndCyc_of_advance h hx rfl
    · exact movesPcAndCyc_of_advance h hx rfl
  | mviM n | inrM | dcrM | pushPsw | popPsw | nop | rlc | nop08 | rrc | nop10 | ral | nop18 | rar | nop20 | shld nn
  | daa | nop28 | lhld nn | cma | nop30 | sta nn | stc | nop38 | lda nn | cmc | hlt | xthl | xchg | di | sphl | ei =>
    exact movesPcAndCyc_of_advance h rfl rfl
  | jmp nn | ret | jmpCB nn | call nn | retD9 | callDD nn | pchl | callED nn | callFD nn =>
    exact movesPcAndCyc_of_goto h rfl rfl

/-- Settles O46: of the two ways to leave PC, an instruction outside the transfers has only the first. -/
theorem pcAdvancesUnlessTransferred : Obligations.PcAdvancesUnlessTransferred := by
  intro i s t h hno
  obtain ⟨n, -, ⟨hpc, -⟩ | ⟨hyes, -⟩⟩ := exec_movesPcAndCyc i s t h
  · exact hpc
  · rw [hno] at hyes
    cases hyes

end Sys2Proof.Machine
end

section
/-! PROOFS. The state of the machine (spec/10_state.md): its values at reset, F and the conditions, what save and load move, and what an
instruction can change and see; O5, O7, O8, O44, O45, O47, O48, O57 and O59 from it. -/

namespace Sys2Proof

/-! ### The formats that write a flag (10_state.md R28) -/

theorem opcodeWritesFlags_inrReg (dst : Reg) : opcodeWritesFlags (Instr.inrReg dst).opcode = true := by cases dst <;> decide
theorem opcodeWritesFlags_dcrReg (dst : Reg) : opcodeWritesFlags (Instr.dcrReg dst).opcode = true := by cases dst <;> decide
theorem opcodeWritesFlags_dad (p : Pair) : opcodeWritesFlags (Instr.dad p).opcode = true := by cases p <;> decide
theorem opcodeWritesFlags_aluM (op : AluOp) : opcodeWritesFlags (Instr.aluM op).opcode = true := by cases op <;> decide

theorem opcodeWritesFlags_aluReg (op : AluOp) (src : Reg) : opcodeWritesFlags (Instr.aluReg op src).opcode = true := by
  cases op <;> cases src <;> decide

theorem Instr.opcode_aluImm (op : AluOp) (n : Byte) : (Instr.aluImm op n).opcode = BitVec.ofNat 8 (0xC6 + 8 * op.number) := by
  cases op <;> rfl

theorem opcodeWritesFlags_aluImm (op : AluOp) (n : Byte) : opcodeWritesFlags (Instr.aluImm op n).opcode = true := by
  rw [Instr.opcode_aluImm]
  cases op <;> decide

end Sys2Proof

namespace Sys2Proof.Machine

/-! ### Reset (10_state.md R40) -/

/-- Settles O5: the values with a register, a latch, an address or a pixel in them are named, the others are read off. -/
theorem resetLeavesTheValuesOfTheSpec : Obligations.ResetLeavesTheValuesOfTheSpec := by
  have hregs : ∀ r : Reg, State.reset.reg r = 0x00 := fun r => by cases r <;> rfl
  have hports : ∀ k : Fin 8, State.reset.ioPorts[k] = 0x00 := by decide
  have hmem : ∀ x : Word, State.reset.readByte x = 0x00 := fun _ => rfl
  have hfb : ∀ x y : Nat, State.reset.fbAt x y = 0xFF000000 := fun _ _ => rfl
  exact ⟨hregs, rfl, rfl, rfl, rfl, rfl, rfl, rfl, rfl, hports, hmem, rfl, hfb, rfl, rfl, rfl, rfl, rfl⟩

/-- The LUT of the scheme NONE, the one at reset, lists nothing: every foreground pixel is white (60_exceptions.md R320). -/
theorem reset_lut : State.reset.lut = lutOf State.reset.scheme := by
  show [] = renderRange Config.white (lutEntry .none) 0 screenSize
  rw [renderRange_eq, eq_comm, List.filterMap_eq_nil_iff]
  intro k _
  rfl

/-- Settles O57: memory, the saves, the framebuffer and the loops are empty, ACC is 0, and the LUT is that of the scheme. -/
theorem resetMeetsTheInvariant : Obligations.ResetMeetsTheInvariant where
  mem := Memory.wf_nil
  saves := fun _ h => absurd h List.not_mem_nil
  fb := rfl
  lut := reset_lut
  acc := .inl (by decide)
  loops := List.nodup_nil
  alpha := fun _ h => absurd h List.not_mem_nil

/-! ### F and the conditions (10_state.md R27, R29) -/

theorem Flags.pack_fixed_bits (f : Flags) : f.pack &&& 0x28 = 0x00 ∧ f.pack &&& 0x02 = 0x02 := by
  obtain ⟨s, z, ac, p, cy⟩ := f
  revert s z ac p cy
  decide

theorem Flags.pack_unpack (v : Byte) : (Flags.unpack v).pack = (v &&& 0xD7) ||| 0x02 := by
  revert v
  decide

theorem Flags.unpack_pack (f : Flags) : Flags.unpack f.pack = f := by
  obtain ⟨s, z, ac, p, cy⟩ := f
  revert s z ac p cy
  decide

/-- Settles O7, over the 32 values of the flags and the 256 of a byte. -/
theorem fIsAByteWithHardWiredBits : Obligations.FIsAByteWithHardWiredBits :=
  ⟨fun s => s.flags.pack_fixed_bits, Flags.pack_unpack, Flags.unpack_pack⟩

/-- Settles O8: each condition is its flag or the flag's negation. -/
theorem conditionsReadTheirFlag : Obligations.ConditionsReadTheirFlag := by
  have hclear : ∀ v : Bool, (!v) = true ↔ v = false := by decide
  exact ⟨fun f => ⟨hclear f.z, .rfl, hclear f.cy, .rfl, hclear f.p, .rfl, hclear f.s, .rfl⟩, rfl⟩

/-! ### Save and load (10_state.md R41) -/

/-- Loading what was saved from a state that differs in nothing saved puts back what is there already. -/
theorem loadState_saveState_saves (s : State) (saves : List Snapshot) :
    loadState (saveState s) { s with saves := saves } = { s with saves := saves } := rfl

/-- A batch goes on behind an event that has not shut the host down. -/
theorem applyEvents_cons_of_next {ev : HostEvent} {rest : List HostEvent} {s t : State} (h : applyEvent ev s = .next t)
    (ht : t.shutdown = false) : applyEvents (ev :: rest) s = applyEvents rest t := by
  simp only [applyEvents, h, ht, Bool.false_eq_true, if_false]

/-- Settles O59: the load behind the save finds its snapshot at age 0, and the save has changed nothing that it puts back. -/
theorem saveThenLoadRestoresExactlyTheSavedFields : Obligations.SaveThenLoadRestoresExactlyTheSavedFields := by
  refine ⟨fun s u => ?_, fun s hs => ?_⟩
  · have hregs : ∀ r : Reg, (loadState (saveState s) u).reg r = s.reg r := fun r => by cases r <;> rfl
    have hout : SameOutside u (loadState (saveState s) u) := ⟨rfl, rfl, rfl, rfl, rfl, rfl, rfl, rfl, rfl, rfl, rfl⟩
    exact ⟨hregs, rfl, rfl, rfl, rfl, rfl, rfl, rfl, rfl, rfl, rfl, rfl, rfl, rfl, hout⟩
  · have hsave : applyEvent .save s = .next { s with saves := saveState s :: s.saves } := rfl
    have hload : applyEvent (.load 0) { s with saves := saveState s :: s.saves } = .next { s with saves := saveState s :: s.saves } :=
      congrArg Host.Outcome.next (loadState_saveState_saves s _)
    rw [applyEvents_cons_of_next hsave hs, applyEvents_cons_of_next hload hs]
    rfl

/-! ### CYC (10_state.md R30) -/

/-- Settles O44: both ways to leave PC name the count added to CYC. -/
theorem cycGrowsByFourToEighteen : Obligations.CycGrowsByFourToEighteen := by
  intro i s t h
  obtain ⟨n, ⟨hlo, hhi⟩, ⟨-, hcyc⟩ | ⟨-, _, -, hcyc⟩⟩ := exec_movesPcAndCyc i s t h
  · exact ⟨n, hlo, hhi, hcyc⟩
  · exact ⟨n, hlo, hhi, hcyc⟩

/-! ### Who writes the flags and the control state -/

/-- `s` with everything cleared that an instruction other than OUT, EI, DI and HLT can write: the byte registers, the flags, SP, PC, CYC
and memory. What is left is IE, Running, the port handler with its outputs, and the video, scheduler, host state and parameters. -/
def State.control (s : State) : State :=
  { s with
    a := 0, b := 0, c := 0, d := 0, e := 0, h := 0, l := 0
    flags := ⟨false, false, false, false, false⟩
    sp := 0, pc := 0, cyc := 0, mem := [] }

/-- Where the control state is the same, so is each part of it. -/
theorem frame_of_control {s t : State} (h : t.control = s.control) :
    t.ie = s.ie ∧ t.running = s.running ∧ SamePorts s t ∧ SameOutside s t := by
  have hb : SameBut [] s.control t.control := h ▸ SameBut.refl s.control []
  exact ⟨hb.ie, hb.running, { hb.ports with }, { hb.outside with }⟩

/-- What instruction `i` can write beyond registers, SP, PC, CYC and memory when it goes from `s` to `t`: the flags where it is a flag
writer, and the control state where it is OUT, EI, DI or HLT. -/
def WritesAsListed (i : Instr) (s t : State) : Prop :=
  (opcodeWritesFlags i.opcode = true ∨ t.flags = s.flags) ∧
    (t.control = s.control ∨ (∃ p : Byte, i = .outPort p) ∨ i = .ei ∨ i = .di ∨ i = .hlt)

section Shapes

variable {i : Instr} {s t u : State}

/-- An instruction that writes neither flags nor control state. -/
theorem writesAsListed_of_frame (h : exec i s = .next t) (hx : exec i s = .next u)
    (hf : u.flags = s.flags := by simp) (hc : u.control = s.control := by simp [State.control]) : WritesAsListed i s t := by
  obtain rfl : u = t := Host.Outcome.next.inj (hx.symm.trans h)
  exact ⟨.inr hf, .inl hc⟩

/-- An instruction that does one of two things, each of which writes neither. -/
theorem writesAsListed_of_choice {c : Bool} {u v : State} (h : exec i s = .next t) (hx : exec i s = if c then .next u else .next v)
    (hu : u.flags = s.flags ∧ u.control = s.control := by simp [State.control])
    (hv : v.flags = s.flags ∧ v.control = s.control := by simp [State.control]) : WritesAsListed i s t := by
  cases c with
  | true => exact writesAsListed_of_frame h hx hu.1 hu.2
  | false => exact writesAsListed_of_frame h hx hv.1 hv.2

/-- A flag writer, which writes no control state. -/
theorem writesAsListed_of_flagWriter (h : exec i s = .next t) (hx : exec i s = .next u)
    (hw : opcodeWritesFlags i.opcode = true := by rfl) (hc : u.control = s.control := by simp [State.control]) : WritesAsListed i s t := by
  obtain rfl : u = t := Host.Outcome.next.inj (hx.symm.trans h)
  exact ⟨.inl hw, .inl hc⟩

/-- A writer of the control state, which writes no flag. -/
theorem writesAsListed_of_controlWriter (h : exec i s = .next t) (hx : exec i s = .next u)
    (hi : (∃ p : Byte, i = .outPort p) ∨ i = .ei ∨ i = .di ∨ i = .hlt := by simp) (hf : u.flags = s.flags := by rfl) :
    WritesAsListed i s t := by
  obtain rfl : u = t := Host.Outcome.next.inj (hx.symm.trans h)
  exact ⟨.inr hf, .inr hi⟩

end Shapes

/-- What an OUT that completes leaves as it was: the flags, IE, all that lies outside, the latches but 3 and 5, and Running unless it is
OUT 0 (45_io_ports.md R260, R268 to R272). -/
structure OutFrame (p : Byte) (s t : State) : Prop where
  flags   : t.flags = s.flags
  ie      : t.ie = s.ie
  running : p ≠ 0 → t.running = s.running
  latches : ∀ k : Fin 8, k ≠ 3 → k ≠ 5 → t.ioPorts[k] = s.ioPorts[k]
  outside : SameOutside s t

/-- A latch that is not the one written keeps its byte. -/
theorem getElem_set_latch (ports : Vector Byte 8) (j k : Fin 8) (v : Byte) (h : k ≠ j) : (ports.set j v)[k] = ports[k] :=
  Vector.getElem_set_ne j.isLt k.isLt fun e => h (Fin.ext e.symm)

/-- Of the updates that OUT can make, the stop touches Running and the two sound banks touch a latch. -/
theorem outFrame_of_next {p : Byte} {s t : State} (h : outputTo p s = .next t) : OutFrame p s t := by
  have same : SameOutside s s := (SameBut.refl s []).outside
  rcases outputTo_cases s p with hx | ⟨h0, hx⟩ | ⟨bytes, hx⟩ | hx | hx | hx | hx | ⟨-, -, -, -, hx⟩
  all_goals rw [hx] at h; cases h
  · exact ⟨rfl, rfl, fun _ => rfl, fun _ _ _ => rfl, { same with }⟩
  · exact ⟨rfl, rfl, fun hp => absurd h0 hp, fun _ _ _ => rfl, { same with }⟩
  · exact ⟨rfl, rfl, fun _ => rfl, fun _ _ _ => rfl, { same with }⟩
  · exact ⟨rfl, rfl, fun _ => rfl, fun _ _ _ => rfl, { same with }⟩
  · exact ⟨rfl, rfl, fun _ => rfl, fun _ _ _ => rfl, { same with }⟩
  · exact ⟨rfl, rfl, fun _ => rfl, fun k h3 _ => getElem_set_latch _ 3 k _ h3, { same with }⟩
  · exact ⟨rfl, rfl, fun _ => rfl, fun k _ h5 => getElem_set_latch _ 5 k _ h5, { same with }⟩

/-- Every instruction that completes writes as listed. -/
theorem exec_writesAsListed (i : Instr) (s t : State) (h : exec i s = .next t) : WritesAsListed i s t := by
  cases i using Instr.byForm with
  | movReg dst src => exact writesAsListed_of_frame h (exec_movReg s dst src)
  | movFromM dst => exact writesAsListed_of_frame h (exec_movFromM s dst)
  | mviReg dst n => exact writesAsListed_of_frame h (exec_mviReg s dst n)
  | lxi p nn => exact writesAsListed_of_frame h (exec_lxi s p nn)
  | inx p => exact writesAsListed_of_frame h (exec_inx s p)
  | dcx p => exact writesAsListed_of_frame h (exec_dcx s p)
  | pop p => exact writesAsListed_of_frame h (exec_pop s p)
  | movToM src => exact writesAsListed_of_frame h (exec_movToM s src)
  | ldax p => exact writesAsListed_of_frame h (exec_ldax s p)
  | stax p => exact writesAsListed_of_frame h (exec_stax s p)
  | push p => exact writesAsListed_of_frame h (exec_push s p)
  | rst n => exact writesAsListed_of_frame h (exec_rst s n)
  | jcc cc nn => exact writesAsListed_of_choice h (exec_jcc s cc nn)
  | ccc cc nn => exact writesAsListed_of_choice h (exec_ccc s cc nn)
  | rcc cc => exact writesAsListed_of_choice h (exec_rcc s cc)
  | inPort n =>
    rcases inputFrom_cases s n with ⟨v, hx⟩ | hx
    · exact writesAsListed_of_frame h hx
    · exact writesAsListed_of_frame h hx
  | mviM n | pushPsw | nop | nop08 | nop10 | nop18 | nop20 | shld nn | nop28 | lhld nn | cma | nop30 | sta nn | nop38 | lda nn | xthl |
    xchg | sphl | jmp nn | ret | jmpCB nn | call nn | retD9 | callDD nn | pchl | callED nn | callFD nn =>
    exact writesAsListed_of_frame h rfl
  | inrReg dst => exact writesAsListed_of_flagWriter h (exec_inrReg s dst) (opcodeWritesFlags_inrReg dst)
  | dcrReg dst => exact writesAsListed_of_flagWriter h (exec_dcrReg s dst) (opcodeWritesFlags_dcrReg dst)
  | aluReg op src => exact writesAsListed_of_flagWriter h (exec_aluReg s op src) (opcodeWritesFlags_aluReg op src)
  | aluM op => exact writesAsListed_of_flagWriter h (exec_aluM s op) (opcodeWritesFlags_aluM op)
  | aluImm op n => exact writesAsListed_of_flagWriter h (exec_aluImm s op n) (opcodeWritesFlags_aluImm op n)
  | dad p => exact writesAsListed_of_flagWriter h (exec_dad s p) (opcodeWritesFlags_dad p)
  | inrM | dcrM | popPsw | rlc | rrc | ral | rar | daa | stc | cmc => exact writesAsListed_of_flagWriter h rfl
  | ei | di | hlt => exact writesAsListed_of_controlWriter h rfl
  | outPort n => exact writesAsListed_of_controlWriter h h (hf := (outFrame_of_next (p := n) h).flags)

/-- Settles O45: an instruction outside the flag writers has only the other way, to keep them. -/
theorem onlyFlagInstructionsWriteFlags : Obligations.OnlyFlagInstructionsWriteFlags := by
  intro i s t h hno
  obtain ⟨hyes | hflags, -⟩ := exec_writesAsListed i s t h
  · rw [hno] at hyes
    cases hyes
  · exact hflags

/-- Settles O47: an instruction that keeps the control state keeps each part of it, and each of the others writes its own part. -/
theorem controlStateHasItsOwnWriters : Obligations.ControlStateHasItsOwnWriters := by
  intro i s t h
  have hports : SamePorts s s := (SameBut.refl s []).ports
  have houtside : SameOutside s s := (SameBut.refl s []).outside
  obtain ⟨-, hc | ⟨p, rfl⟩ | rfl | rfl | rfl⟩ := exec_writesAsListed i s t h
  · obtain ⟨hie, hrunning, hp, ho⟩ := frame_of_control hc
    exact ⟨fun _ _ => hie, fun _ _ => hrunning, fun _ => hp, fun k _ _ => by rw [hp.ioPorts], ho⟩
  · have hout : OutFrame p s t := outFrame_of_next h
    exact ⟨fun _ _ => hout.ie, fun _ h0 => hout.running fun e => h0 (congrArg Instr.outPort e), fun hno => absurd rfl (hno p),
      hout.latches, hout.outside⟩
  · cases h
    exact ⟨fun hne _ => absurd rfl hne, fun _ _ => rfl, fun _ => { hports with }, fun _ _ _ => rfl, { houtside with }⟩
  · cases h
    exact ⟨fun _ hne => absurd rfl hne, fun _ _ => rfl, fun _ => { hports with }, fun _ _ _ => rfl, { houtside with }⟩
  · cases h
    exact ⟨fun _ _ => rfl, fun hne _ => absurd rfl hne, fun _ => { hports with }, fun _ _ _ => rfl, { houtside with }⟩

/-! ### What an instruction can see (10_state.md R36, R37; 20_memory.md R74) -/

/-- The outcome with the outside of its next state, if it has one, taken from `o`. -/
def nextWithOutside (o : State) : Result → Result
  | .next t => .next (t.withOutside o)
  | .fault r => .fault r
  | .refused r => .refused r

/-- A meaning that neither reads nor writes the video, the scheduler, the host state and the parameters but MODE: replacing them before
it or behind it comes to the same. -/
def OutsideBlind (f : State → Result) : Prop :=
  ∀ s o : State, f (s.withOutside o) = nextWithOutside o (f s)

theorem OutsideBlind.of_eq {f g : State → Result} (hfg : ∀ s, f s = g s) (hg : OutsideBlind g) : OutsideBlind f := fun s o => by
  rw [hfg, hfg, hg]

/-- A choice between two blind meanings on the flags. -/
theorem OutsideBlind.ite {f g : State → Result} (c : Flags → Bool) (hf : OutsideBlind f) (hg : OutsideBlind g) :
    OutsideBlind (fun s => if c s.flags = true then f s else g s) := fun s o => by
  show (if c s.flags = true then f (s.withOutside o) else g (s.withOutside o)) =
    nextWithOutside o (if c s.flags = true then f s else g s)
  by_cases hc : c s.flags = true
  · rw [if_pos hc, if_pos hc, hf]
  · rw [if_neg hc, if_neg hc, hg]

theorem outsideBlind_inputFrom (p : Byte) : OutsideBlind (inputFrom p) := fun s o => by
  have hread : ioRead p (s.withOutside o) = ioRead p s := rfl
  unfold inputFrom
  rw [hread]
  cases ioRead p s <;> rfl

theorem outsideBlind_consoleOutput : OutsideBlind consoleOutput := fun s o => by
  have hbytes : consoleBytes (s.withOutside o) = consoleBytes s := rfl
  unfold consoleOutput
  rw [hbytes]
  cases consoleBytes s <;> rfl

/-- The port handler reads MODE, which `withOutside` leaves, and nothing else outside (45_io_ports.md R270 to R273). -/
theorem outsideBlind_ioWrite (p v : Byte) : OutsideBlind (ioWrite p v) := fun s o => by
  have hmode : (s.withOutside o).mode = s.mode := rfl
  rcases port_cases p with rfl | rfl | rfl | rfl | rfl | rfl | hp
  · cases hm : s.mode with
    | arcade => rw [ioWrite_0_arcade _ _ (hmode.trans hm), ioWrite_0_arcade _ _ hm]; rfl
    | cpm => rw [ioWrite_0_cpm _ _ (hmode.trans hm), ioWrite_0_cpm _ _ hm]; rfl
  · cases hm : s.mode with
    | arcade => rw [ioWrite_1_arcade _ _ (hmode.trans hm), ioWrite_1_arcade _ _ hm]; rfl
    | cpm => rw [ioWrite_1_cpm _ _ (hmode.trans hm), ioWrite_1_cpm _ _ hm, outsideBlind_consoleOutput]
  · rfl
  · rfl
  · rfl
  · rfl
  · rw [ioWrite_other _ _ p hp, ioWrite_other _ _ p hp]; rfl

theorem outsideBlind_outputTo (p : Byte) : OutsideBlind (outputTo p) := fun s o => by
  have hwrite : ioWrite p (s.withOutside o).a (s.withOutside o) = nextWithOutside o (ioWrite p s.a s) := outsideBlind_ioWrite p s.a s o
  unfold outputTo
  rw [hwrite]
  cases ioWrite p s.a s <;> rfl

/-- No instruction looks at the outside: once the operand field of its form is fixed, both sides are the same term. -/
theorem outsideBlind_exec (i : Instr) : OutsideBlind (exec i) := by
  cases i using Instr.byForm with
  | movReg dst src => exact .of_eq (fun s => exec_movReg s dst src) fun s o => by cases dst <;> cases src <;> rfl
  | movFromM dst => exact .of_eq (fun s => exec_movFromM s dst) fun s o => by cases dst <;> rfl
  | movToM src => exact .of_eq (fun s => exec_movToM s src) fun s o => by cases src <;> rfl
  | mviReg dst n => exact .of_eq (fun s => exec_mviReg s dst n) fun s o => by cases dst <;> rfl
  | inrReg dst => exact .of_eq (fun s => exec_inrReg s dst) fun s o => by cases dst <;> rfl
  | dcrReg dst => exact .of_eq (fun s => exec_dcrReg s dst) fun s o => by cases dst <;> rfl
  | aluReg op src => exact .of_eq (fun s => exec_aluReg s op src) fun s o => by cases src <;> rfl
  | aluM op => exact .of_eq (fun s => exec_aluM s op) fun _ _ => rfl
  | aluImm op n => exact .of_eq (fun s => exec_aluImm s op n) fun _ _ => rfl
  | lxi p nn => exact .of_eq (fun s => exec_lxi s p nn) fun s o => by cases p <;> rfl
  | dad p => exact .of_eq (fun s => exec_dad s p) fun s o => by cases p <;> rfl
  | inx p => exact .of_eq (fun s => exec_inx s p) fun s o => by cases p <;> rfl
  | dcx p => exact .of_eq (fun s => exec_dcx s p) fun s o => by cases p <;> rfl
  | ldax p => exact .of_eq (fun s => exec_ldax s p) fun s o => by cases p <;> rfl
  | stax p => exact .of_eq (fun s => exec_stax s p) fun s o => by cases p <;> rfl
  | push p => exact .of_eq (fun s => exec_push s p) fun s o => by cases p <;> rfl
  | pop p => exact .of_eq (fun s => exec_pop s p) fun s o => by cases p <;> rfl
  | jcc cc nn => exact .of_eq (fun s => exec_jcc s cc nn) (.ite (condHolds cc) (fun _ _ => rfl) fun _ _ => rfl)
  | ccc cc nn => exact .of_eq (fun s => exec_ccc s cc nn) (.ite (condHolds cc) (fun _ _ => rfl) fun _ _ => rfl)
  | rcc cc => exact .of_eq (fun s => exec_rcc s cc) (.ite (condHolds cc) (fun _ _ => rfl) fun _ _ => rfl)
  | rst n => exact .of_eq (fun s => exec_rst s n) fun _ _ => rfl
  | inPort n => exact outsideBlind_inputFrom n
  | outPort n => exact outsideBlind_outputTo n
  | mviM n | inrM | dcrM | pushPsw | popPsw | nop | rlc | nop08 | rrc | nop10 | ral | nop18 | rar | nop20 | shld nn |
    daa | nop28 | lhld nn | cma | nop30 | sta nn | stc | nop38 | lda nn | cmc | hlt | jmp nn | ret | jmpCB nn | call nn |
    retD9 | callDD nn | xthl | pchl | xchg | callED nn | di | sphl | ei | callFD nn => exact fun _ _ => rfl

/-- Settles O48: the statement writes `nextWithOutside` out. -/
theorem instructionsCannotSeeVideoOrScheduler : Obligations.InstructionsCannotSeeVideoOrScheduler := by
  intro i s o
  rw [outsideBlind_exec i s o]
  cases exec i s <;> rfl

end Sys2Proof.Machine
end

section
/-! PROOFS. What an instruction stores (spec/20_memory.md R62, R65), what it does to the sound loops, and the invariant along a turn of
the scheduler (spec/60_exceptions.md R330 to R333); O56 from it. -/

namespace Sys2Proof.Machine

/-! ### What an instruction stores -/

/-- The memories that one instruction can make of `m`: the same one, one with a byte stored, one with a word stored, low byte first. -/
inductive StoredAtMostWord (m : Memory) : Memory → Prop where
  | unchanged : StoredAtMostWord m m
  | byte (x : Word) (v : Byte) : StoredAtMostWord m (m.write x v)
  | word (x v : Word) : StoredAtMostWord m ((m.write x v.lo).write (x + 1) v.hi)

theorem StoredAtMostWord.wf {m m' : Memory} (h : StoredAtMostWord m m') (hm : m.wf = true) : m'.wf = true := by
  cases h with
  | unchanged => exact hm
  | byte x v => exact Memory.wf_write m x v hm
  | word x v => exact Memory.wf_write _ (x + 1) v.hi (Memory.wf_write m x v.lo hm)

section Shapes

variable {i : Instr} {s t u : State}

theorem stored_of_next (h : exec i s = .next t) (hx : exec i s = .next u) (hu : StoredAtMostWord s.mem u.mem) :
    StoredAtMostWord s.mem t.mem := by
  obtain rfl : u = t := Host.Outcome.next.inj (hx.symm.trans h)
  exact hu

/-- An instruction that stores nothing. -/
theorem stored_of_sameMem (h : exec i s = .next t) (hx : exec i s = .next u) (hm : u.mem = s.mem := by simp) :
    StoredAtMostWord s.mem t.mem :=
  stored_of_next h hx (hm ▸ .unchanged)

/-- An instruction that does one of two things. -/
theorem stored_of_choice {c : Bool} {v : State} (h : exec i s = .next t) (hx : exec i s = if c then .next u else .next v)
    (hu : StoredAtMostWord s.mem u.mem) (hv : StoredAtMostWord s.mem v.mem) : StoredAtMostWord s.mem t.mem := by
  cases c with
  | true => exact stored_of_next h hx hu
  | false => exact stored_of_next h hx hv

end Shapes

/-- An OUT that completes stores nothing, and its events, if it has any, are applied to the loops (45_io_ports.md R265 to R274). -/
theorem outputTo_mem_loops {p : Byte} {s t : State} (h : outputTo p s = .next t) :
    t.mem = s.mem ∧ ∃ events : List SoundEvent, t.loops = events.foldl applySound s.loops := by
  rcases outputTo_cases s p with hx | ⟨-, hx⟩ | ⟨bytes, hx⟩ | hx | hx | hx | hx | ⟨-, -, -, -, hx⟩
  all_goals rw [hx] at h; cases h
  · exact ⟨rfl, [], rfl⟩
  · exact ⟨rfl, [], rfl⟩
  · exact ⟨rfl, [], rfl⟩
  · exact ⟨rfl, [], rfl⟩
  · exact ⟨rfl, [], rfl⟩
  · exact ⟨rfl, bank1Events s.ioPorts[3] s.a, rfl⟩
  · exact ⟨rfl, bank2Events s.ioPorts[5] s.a, rfl⟩

/-- Every instruction that completes stores nothing, a byte or a word. -/
theorem exec_stored (i : Instr) (s t : State) (h : exec i s = .next t) : StoredAtMostWord s.mem t.mem := by
  cases i using Instr.byForm with
  | movReg dst src => exact stored_of_sameMem h (exec_movReg s dst src)
  | movFromM dst => exact stored_of_sameMem h (exec_movFromM s dst)
  | mviReg dst n => exact stored_of_sameMem h (exec_mviReg s dst n)
  | inrReg dst => exact stored_of_sameMem h (exec_inrReg s dst)
  | dcrReg dst => exact stored_of_sameMem h (exec_dcrReg s dst)
  | aluReg op src => exact stored_of_sameMem h (exec_aluReg s op src)
  | aluM op => exact stored_of_sameMem h (exec_aluM s op)
  | aluImm op n => exact stored_of_sameMem h (exec_aluImm s op n)
  | lxi p nn => exact stored_of_sameMem h (exec_lxi s p nn)
  | dad p => exact stored_of_sameMem h (exec_dad s p)
  | inx p => exact stored_of_sameMem h (exec_inx s p)
  | dcx p => exact stored_of_sameMem h (exec_dcx s p)
  | ldax p => exact stored_of_sameMem h (exec_ldax s p)
  | pop p => exact stored_of_sameMem h (exec_pop s p)
  | movToM src => exact stored_of_next h (exec_movToM s src) (.byte _ _)
  | stax p => exact stored_of_next h (exec_stax s p) (.byte _ _)
  | mviM n | inrM | dcrM | sta nn => exact stored_of_next h rfl (.byte _ _)
  | push p => exact stored_of_next h (exec_push s p) (.word _ _)
  | rst n => exact stored_of_next h (exec_rst s n) (.word _ _)
  | pushPsw | shld nn | xthl | call nn | callDD nn | callED nn | callFD nn => exact stored_of_next h rfl (.word _ _)
  | jcc cc nn => exact stored_of_choice h (exec_jcc s cc nn) .unchanged .unchanged
  | ccc cc nn => exact stored_of_choice h (exec_ccc s cc nn) (.word _ _) .unchanged
  | rcc cc => exact stored_of_choice h (exec_rcc s cc) .unchanged .unchanged
  | inPort n =>
    rcases inputFrom_cases s n with ⟨v, hx⟩ | hx
    · exact stored_of_sameMem h hx
    · exact stored_of_sameMem h hx
  | outPort n =>
    obtain ⟨hm, -⟩ := outputTo_mem_loops (p := n) h
    exact stored_of_sameMem h h hm
  | popPsw | nop | rlc | nop08 | rrc | nop10 | ral | nop18 | rar | nop20 | daa | nop28 | lhld nn | cma | nop30 | stc | nop38 | lda nn |
    cmc | hlt | jmp nn | ret | jmpCB nn | retD9 | pchl | xchg | di | sphl | ei =>
    exact stored_of_sameMem h rfl

/-! ### The invariant through an instruction -/

theorem exec_sameOutside (i : Instr) (s t : State) (h : exec i s = .next t) : SameOutside s t := by
  obtain ⟨-, -, -, -, houtside⟩ := controlStateHasItsOwnWriters i s t h
  exact houtside

/-- Only OUT has sound events, so only OUT changes the loops (10_state.md R38). -/
theorem exec_nodup_loops (i : Instr) (s t : State) (h : exec i s = .next t) (hs : s.loops.Nodup) : t.loops.Nodup := by
  by_cases hout : ∃ p : Byte, i = .outPort p
  · obtain ⟨p, rfl⟩ := hout
    obtain ⟨-, events, hl⟩ := outputTo_mem_loops (p := p) h
    rw [hl]
    exact nodup_foldl_applySound events s.loops hs
  · obtain ⟨-, -, hports, -⟩ := controlStateHasItsOwnWriters i s t h
    rw [(hports fun p e => hout ⟨p, e⟩).loops]
    exact hs

section Turn

variable {s t : State}

/-- The outside is as it was, so ACC is still inside the budget, and the invariant asks nothing of Running there. -/
theorem State.Inv.exec (hs : s.Inv) (hacc : s.acc < Config.cyclesPerFrame) (i : Instr) (h : exec i s = .next t) : t.Inv :=
  have o := exec_sameOutside i s t h
  { mem := (exec_stored i s t h).wf hs.mem
    saves := by rw [o.saves]; exact hs.saves
    fb := by rw [o.fb]; exact hs.fb
    lut := by rw [o.lut, o.scheme]; exact hs.lut
    acc := .inl (by rw [o.acc]; exact hacc)
    loops := exec_nodup_loops i s t h hs.loops
    alpha := by rw [o.fb]; exact hs.alpha }

theorem State.Inv.withAcc (hs : s.Inv) (n : Nat) (hn : n < Config.cyclesPerFrame ∨ (s.running = false ∧ n ≤ 33350)) :
    State.Inv { s with acc := n } :=
  { hs with acc := hn }

/-! ### The invariant through a turn of the scheduler -/

/-- A CPU step that answers a next state runs an instruction (30_encoding.md R84). -/
theorem cpuStep_next (h : cpuStep s = .next t) : ∃ i : Instr, exec i s = .next t := by
  unfold cpuStep at h
  split at h
  · next i _ _ => exact ⟨i, h⟩
  · cases h

/-- The count that ACC grows by is at most the longest instruction's 18 (10_state.md R30). -/
theorem cyclesConsumed_le (i : Instr) (h : exec i s = .next t) : cyclesConsumed s t ≤ 18 := by
  obtain ⟨n, -, hhi, hcyc⟩ := cycGrowsByFourToEighteen i s t h
  unfold cyclesConsumed
  rw [hcyc]
  bv_omega

theorem State.Inv.frameBoundary (hs : s.Inv) (h : frameBoundary s = .next t) : t.Inv :=
  have hzero : State.Inv { s with acc := 0 } := hs.withAcc 0 (.inl (by decide))
  hzero.videoStep.hostTurn t h

/-- Everything the scheduler can do behind a CPU step: end a full frame, or go on with ACC inside the budget or with the CPU stopped
(60_exceptions.md R331, R333). -/
theorem afterStep_cases {u : State} (h : afterStep s u = .next t) :
    frameBoundary { u with acc := s.acc + cyclesConsumed s u } = .next t ∨
    (t = { u with acc := s.acc + cyclesConsumed s u } ∧ (t.acc < Config.cyclesPerFrame ∨ u.running = false)) := by
  unfold afterStep at h
  simp only at h
  split at h
  · split at h
    · exact .inl h
    · next hlt =>
      cases h
      exact .inr ⟨rfl, .inl (Nat.lt_of_not_le hlt)⟩
  · next hstop =>
    cases h
    exact .inr ⟨rfl, .inr (Bool.eq_false_iff.mpr hstop)⟩

/-- A boundary sets ACC to 0, whatever it was. Without a boundary, ACC is inside the budget, or the CPU has stopped less than 18 cycles
past it: 33,332 and 18 are 33,350. -/
theorem State.Inv.afterStep {u : State} (hu : u.Inv) (hacc : s.acc < Config.cyclesPerFrame) (hc : cyclesConsumed s u ≤ 18)
    (h : afterStep s u = .next t) : t.Inv := by
  rcases afterStep_cases h with hb | ⟨rfl, hlt | hstop⟩
  · exact hu.frameBoundary hb
  · exact hu.withAcc _ (.inl hlt)
  · have hbudget : Config.cyclesPerFrame = 33333 := rfl
    exact hu.withAcc _ (.inr ⟨hstop, by omega⟩)

/-- Everything a step that answers a next state can be: the tick of a pause, or a CPU step and what the scheduler does behind it, and in
both the CPU runs (60_exceptions.md R331, R334). -/
theorem step_cases (h : step s = .next t) :
    s.running = true ∧ (pausedTick s = .next t ∨ ∃ u : State, cpuStep s = .next u ∧ afterStep s u = .next t) := by
  unfold step at h
  split at h
  · cases h
  · next hover =>
    have hrun : s.running = true := by
      simp only [State.over, Bool.or_eq_true, Bool.not_eq_true', not_or] at hover
      exact Bool.eq_true_of_not_eq_false hover.1
    split at h
    · exact ⟨hrun, .inl h⟩
    · split at h
      · next u hu => exact ⟨hrun, .inr ⟨u, hu, h⟩⟩
      · cases h
      · cases h

/-- A machine that runs is inside the frame's budget. -/
theorem State.Inv.acc_lt_of_running (hs : s.Inv) (hrun : s.running = true) : s.acc < Config.cyclesPerFrame := by
  rcases hs.acc with hlt | ⟨hstop, -⟩
  · exact hlt
  · rw [hrun] at hstop
    cases hstop

end Turn

/-- Settles O56: a paused tick keeps the invariant part by part; a CPU step starts inside the budget, so its instruction keeps the
invariant, and so does what the scheduler does behind it. -/
theorem everyStepKeepsTheInvariant : Obligations.EveryStepKeepsTheInvariant := by
  intro s t hs h
  obtain ⟨hrun, hpaused | ⟨u, hcpu, hafter⟩⟩ := step_cases h
  · exact hs.videoStep.hostTurn t hpaused
  · obtain ⟨i, hi⟩ := cpuStep_next hcpu
    have hacc := hs.acc_lt_of_running hrun
    exact (hs.exec hacc i hi).afterStep hacc (cyclesConsumed_le i hi) hafter

end Sys2Proof.Machine
end

section
/-! PROOFS. The encoding (spec/30_encoding.md): the three shapes an instruction's bytes can have and the round trip in each, and the
fetch that a step runs; O1, O2, O3, O4 and O6 from it. -/

namespace Sys2Proof

/-! ### The three shapes of an encoding (30_encoding.md R80, R83) -/

/-- The encoder and the decoder agree on an instruction, which is an opcode byte alone, or one with a byte or a word behind it that can
take every value. -/
inductive CoherentEncoding : Instr → Prop where
  | opcodeOnly {i : Instr} (op : Byte) (enc : encode i = [op]) (len : opcodeLength op = 1) (dec : decodeOpcode op 0 0 = i) :
      CoherentEncoding i
  | immByte (op : Byte) (form : Byte → Instr) (n : Byte) (enc : ∀ b : Byte, encode (form b) = [op, b]) (len : opcodeLength op = 2)
      (dec : ∀ b : Byte, decodeOpcode op b 0 = form b) : CoherentEncoding (form n)
  | immWord (op : Byte) (form : Word → Instr) (nn : Word) (enc : ∀ w : Word, encode (form w) = [op, w.lo, w.hi])
      (len : opcodeLength op = 3) (dec : ∀ lo hi : Byte, decodeOpcode op lo hi = form (Word.ofBytes hi lo)) : CoherentEncoding (form nn)

/-- RST is checked over its eight vectors (30_encoding.md R81). -/
theorem coherentEncoding_rst (n : BitVec 3) : CoherentEncoding (.rst n) := by
  have h : ∀ m : BitVec 3, encode (.rst m) = [(Instr.rst m).opcode] ∧ opcodeLength (Instr.rst m).opcode = 1 ∧
      decodeOpcode (Instr.rst m).opcode 0 0 = .rst m := by decide
  obtain ⟨enc, len, dec⟩ := h n
  exact .opcodeOnly _ enc len dec

/-- Every instruction has one of the three shapes: with the fields of its form fixed, encoder and decoder compute. -/
theorem coherentEncoding (i : Instr) : CoherentEncoding i := by
  cases i using Instr.byForm with
  | movReg dst src => cases dst <;> cases src <;> exact .opcodeOnly _ rfl rfl rfl
  | aluReg op src => cases op <;> cases src <;> exact .opcodeOnly _ rfl rfl rfl
  | movFromM r | movToM r | inrReg r | dcrReg r => cases r <;> exact .opcodeOnly _ rfl rfl rfl
  | aluM op => cases op <;> exact .opcodeOnly _ rfl rfl rfl
  | dad p | inx p | dcx p | ldax p | stax p | push p | pop p => cases p <;> exact .opcodeOnly _ rfl rfl rfl
  | rcc cc => cases cc <;> exact .opcodeOnly _ rfl rfl rfl
  | rst n => exact coherentEncoding_rst n
  | inrM | dcrM | pushPsw | popPsw | nop | rlc | nop08 | rrc | nop10 | ral | nop18 | rar | nop20 | daa | nop28 | cma | nop30 | stc |
    nop38 | cmc | hlt | ret | retD9 | xthl | pchl | xchg | di | sphl | ei => exact .opcodeOnly _ rfl rfl rfl
  | mviReg dst n => cases dst <;> exact .immByte _ _ n (fun _ => rfl) rfl fun _ => rfl
  | aluImm op n => cases op <;> exact .immByte _ _ n (fun _ => rfl) rfl fun _ => rfl
  | mviM n | outPort n | inPort n => exact .immByte _ _ n (fun _ => rfl) rfl fun _ => rfl
  | lxi p nn => cases p <;> exact .immWord _ _ nn (fun _ => rfl) rfl fun _ _ => rfl
  | jcc cc nn | ccc cc nn => cases cc <;> exact .immWord _ _ nn (fun _ => rfl) rfl fun _ _ => rfl
  | shld nn | lhld nn | sta nn | lda nn | jmp nn | jmpCB nn | call nn | callDD nn | callED nn | callFD nn =>
    exact .immWord _ _ nn (fun _ => rfl) rfl fun _ _ => rfl

/-! ### What decode answers for an opcode of each length (30_encoding.md R80) -/

section Lengths

variable {op : Byte}

theorem decode_of_length_one (h : opcodeLength op = 1) (rest : List Byte) :
    decode (op :: rest) = .ok (decodeOpcode op 0 0, rest) := by
  simp only [decode, h]

theorem decode_of_length_two (h : opcodeLength op = 2) (b1 : Byte) (rest : List Byte) :
    decode (op :: b1 :: rest) = .ok (decodeOpcode op b1 0, rest) := by
  simp only [decode, h]

theorem decode_of_length_three (h : opcodeLength op = 3) (b1 b2 : Byte) (rest : List Byte) :
    decode (op :: b1 :: b2 :: rest) = .ok (decodeOpcode op b1 b2, rest) := by
  simp only [decode, h]

end Lengths

/-- What is decoded is an opcode byte and as many bytes behind it as its length takes, in front of the bytes left over. -/
theorem eq_take_append_of_decode {bytes rest : List Byte} {i : Instr} (h : decode bytes = .ok (i, rest)) :
    ∃ op b1 b2 : Byte, bytes = [op, b1, b2].take (opcodeLength op) ++ rest := by
  cases bytes with
  | nil => cases h
  | cons op tail =>
    simp only [decode] at h
    split at h
    · next hlen => cases h; exact ⟨op, 0, 0, by rw [hlen]; rfl⟩
    · next b1 _ hlen => cases h; exact ⟨op, b1, 0, by rw [hlen]; rfl⟩
    · next b1 b2 _ hlen => cases h; exact ⟨op, b1, b2, by rw [hlen]; rfl⟩
    · cases h

/-! ### The round trips -/

/-- Settles O1, shape by shape: what the decoder reads behind the opcode byte is what the encoder wrote there. -/
theorem decodeOfEncodeIsTheInstruction : Obligations.DecodeOfEncodeIsTheInstruction := by
  intro i rest
  cases coherentEncoding i with
  | opcodeOnly op enc len dec =>
    rw [enc, ← dec]
    exact decode_of_length_one len rest
  | immByte op form n enc len dec =>
    rw [enc, ← dec]
    exact decode_of_length_two len n rest
  | immWord op form nn enc len dec =>
    have hdec : decodeOpcode op nn.lo nn.hi = form nn := by rw [dec, Word.ofBytes_hi_lo]
    rw [enc, ← hdec]
    exact decode_of_length_three len nn.lo nn.hi rest

theorem Instr.opcode_of_encode {i : Instr} {op : Byte} {operand : List Byte} (h : encode i = op :: operand) : i.opcode = op := by
  rw [Instr.opcode, h, List.headD_cons]

/-- Every byte is the opcode of an instruction (30_encoding.md R85, R87). -/
theorem exists_opcode_eq (op : Byte) : ∃ i : Instr, i.opcode = op := by
  have h : ∀ x : Byte, (decodeOpcode x 0 0).opcode = x := by decide
  exact ⟨_, h op⟩

theorem opcodeLength_bounds (op : Byte) : 1 ≤ opcodeLength op ∧ opcodeLength op ≤ 3 := by
  revert op
  decide

/-- Any opcode byte with any bytes behind it, as many as its length takes, is an encoding: an operand can take every value. -/
theorem exists_encode_eq_take (op b1 b2 : Byte) : ∃ i : Instr, encode i = [op, b1, b2].take (opcodeLength op) := by
  obtain ⟨i, hop⟩ := exists_opcode_eq op
  cases coherentEncoding i with
  | opcodeOnly op' enc len dec =>
    obtain rfl : op' = op := (Instr.opcode_of_encode enc).symm.trans hop
    exact ⟨i, by rw [enc, len]; rfl⟩
  | immByte op' form n enc len dec =>
    obtain rfl : op' = op := (Instr.opcode_of_encode (enc n)).symm.trans hop
    exact ⟨form b1, by rw [enc, len]; rfl⟩
  | immWord op' form nn enc len dec =>
    obtain rfl : op' = op := (Instr.opcode_of_encode (enc nn)).symm.trans hop
    exact ⟨form (Word.ofBytes b2 b1), by rw [enc, len, Word.lo_ofBytes, Word.hi_ofBytes]; rfl⟩

/-- Settles O2: the bytes decoded are some instruction's encoding, and by O1 that instruction is the one they decode to. -/
theorem encodeOfDecodeIsTheBytes : Obligations.EncodeOfDecodeIsTheBytes := by
  intro bytes rest i h
  obtain ⟨op, b1, b2, rfl⟩ := eq_take_append_of_decode h
  obtain ⟨j, hj⟩ := exists_encode_eq_take op b1 b2
  rw [← hj, decodeOfEncodeIsTheInstruction j rest] at h
  cases h
  rw [hj]

/-- Settles O3 with the length of the opcode byte: the bytes are an encoding of that length in front of the rest, so O1 decodes them. -/
theorem everyOpcodeIsDefinedWithItsLength : Obligations.EveryOpcodeIsDefinedWithItsLength := by
  intro op
  obtain ⟨hlo, hhi⟩ := opcodeLength_bounds op
  refine ⟨opcodeLength op, hlo, hhi, fun b1 b2 rest => ?_⟩
  obtain ⟨i, hi⟩ := exists_encode_eq_take op b1 b2
  have hlen : i.length = opcodeLength op := by
    rw [Instr.length, hi, List.length_take]
    exact Nat.min_eq_left hhi
  have hop : i.opcode = op := by
    obtain ⟨k, hk⟩ := Nat.exists_eq_add_of_le' hlo
    rw [hk] at hi
    exact Instr.opcode_of_encode hi
  have hfront : encode i = (op :: b1 :: b2 :: rest).take (opcodeLength op) :=
    hi.trans (List.take_append_of_le_length (l₂ := rest) hhi).symm
  have hdec := decodeOfEncodeIsTheInstruction i ((op :: b1 :: b2 :: rest).drop (opcodeLength op))
  rw [hfront, List.take_append_drop] at hdec
  exact ⟨i, hdec, hop, hlen, fun h => by rw [hi, h]; rfl, fun h => by rw [hi, h]; rfl⟩

/-- Settles O4: the words are closed, so the decoder computes on each. -/
theorem wordsOfTheSpecDecode : Obligations.WordsOfTheSpecDecode :=
  ⟨rfl, rfl, rfl, rfl, rfl, rfl, rfl, rfl, rfl, rfl, rfl, rfl, rfl, rfl, rfl⟩

end Sys2Proof

namespace Sys2Proof.Machine

/-! ### The fetch of a step (30_encoding.md R84, 60_exceptions.md R331, R332) -/

section Fetch

variable {s : State}

theorem cpuStep_of_decode {i : Instr} {rest : List Byte} (h : decode s.fetch = .ok (i, rest)) : cpuStep s = exec i s := by
  simp only [cpuStep, h]

theorem State.over_eq_false (hrun : s.running = true) (hshut : s.shutdown = false) : s.over = false := by
  rw [State.over, hrun, hshut]
  rfl

/-- A turn that is neither over nor held is a CPU step and what the scheduler does behind it. -/
theorem step_of_live (hover : s.over = false) (hheld : s.held = false) :
    step s = match cpuStep s with
      | .next t => afterStep s t
      | .fault r => .fault r
      | .refused r => .refused r :=
  (if_neg (Bool.eq_false_iff.mp hover)).trans (if_neg (Bool.eq_false_iff.mp hheld))

end Fetch

/-- Settles O6: the three bytes of the hypothesis are the fetch, and the turn is neither over nor held. -/
theorem stepRunsTheDecodedInstruction : Obligations.StepRunsTheDecodedInstruction := by
  intro s i rest hrun hshut hheld hdec
  have hcpu : cpuStep s = exec i s := cpuStep_of_decode hdec
  rw [← hcpu]
  exact ⟨rfl, step_of_live (State.over_eq_false hrun hshut) hheld⟩

end Sys2Proof.Machine
end

section
/-! PROOFS. Data transfer (spec/40_data_transfer.md): the bytes of its formats, what a write to registers or to memory at the end of an
instruction changes and keeps, and the exchange; O9 to O14 from it. -/

namespace Sys2Proof

/-! ### The bytes of each format with fields (30_encoding.md R81) -/

theorem Instr.encode_movReg (dst src : Reg) :
    encode (.movReg dst src) = [BitVec.ofNat 8 (0x40 + 8 * dst.number + src.number)] := by cases dst <;> cases src <;> rfl
theorem Instr.encode_movFromM (dst : Reg) : encode (.movFromM dst) = [BitVec.ofNat 8 (0x46 + 8 * dst.number)] := by cases dst <;> rfl
theorem Instr.encode_movToM (src : Reg) : encode (.movToM src) = [BitVec.ofNat 8 (0x70 + src.number)] := by cases src <;> rfl
theorem Instr.encode_mviReg (dst : Reg) (n : Byte) : encode (.mviReg dst n) = [BitVec.ofNat 8 (0x06 + 8 * dst.number), n] := by
  cases dst <;> rfl
theorem Instr.encode_lxi (p : Pair) (nn : Word) : encode (.lxi p nn) = [BitVec.ofNat 8 (0x01 + 16 * p.number), nn.lo, nn.hi] := by
  cases p <;> rfl
theorem Instr.encode_ldax (p : IndexPair) : encode (.ldax p) = [BitVec.ofNat 8 (0x0A + 16 * p.number)] := by cases p <;> rfl
theorem Instr.encode_stax (p : IndexPair) : encode (.stax p) = [BitVec.ofNat 8 (0x02 + 16 * p.number)] := by cases p <;> rfl

end Sys2Proof

namespace Sys2Proof.Machine

/-! ### The bytes of HL and DE (10_state.md R22) -/

@[simp] theorem State.hi_hl (s : State) : s.hl.hi = s.h := Word.hi_ofBytes s.h s.l
@[simp] theorem State.lo_hl (s : State) : s.hl.lo = s.l := Word.lo_ofBytes s.h s.l
@[simp] theorem State.hi_de (s : State) : s.de.hi = s.d := Word.hi_ofBytes s.d s.e
@[simp] theorem State.lo_de (s : State) : s.de.lo = s.e := Word.lo_ofBytes s.d s.e

/-! ### Frames through register writes and the end of an instruction -/

section Frames

variable {s t : State} {written : List Reg} {stored : List Word}

theorem OnlyRegs.refl (s : State) (written : List Reg) : OnlyRegs written s s :=
  ⟨SameBut.refl s written, rfl, rfl, fun _ => rfl⟩

/-- A write to one of the registers that may be written stays inside the frame. -/
theorem SameBut.setReg {r : Reg} (h : SameBut written s t) (hr : r ∈ written) (v : Byte) : SameBut written s (t.setReg r v) where
  regs q hq := by
    have hne : q ≠ r := fun e => hq (e ▸ hr)
    rw [State.reg_setReg, if_neg hne, h.regs q hq]
  ie := (State.setReg_ie t r v).trans h.ie
  running := (State.setReg_running t r v).trans h.running
  ports := by cases r <;> exact { h.ports with }
  outside := by cases r <;> exact { h.outside with }

theorem OnlyRegs.setReg {r : Reg} (h : OnlyRegs written s t) (hr : r ∈ written) (v : Byte) : OnlyRegs written s (t.setReg r v) := by
  obtain ⟨hsame, hflags, hsp, hmem⟩ := h
  exact ⟨hsame.setReg hr v, by simp [hflags], by simp [hsp], fun x => by simp [hmem x]⟩

theorem OnlyRegs.setHl (h : OnlyRegs written s t) (hh : .h ∈ written) (hl : .l ∈ written) (v : Word) : OnlyRegs written s (t.setHl v) :=
  (h.setReg hh v.hi).setReg hl v.lo

theorem OnlyRegs.setDe (h : OnlyRegs written s t) (hd : .d ∈ written) (he : .e ∈ written) (v : Word) : OnlyRegs written s (t.setDe v) :=
  (h.setReg hd v.hi).setReg he v.lo

theorem OnlyRegs.advance (h : OnlyRegs written s t) (k n : Nat) : OnlyRegs written s (t.advance k n) := by
  obtain ⟨hsame, hflags, hsp, hmem⟩ := h
  exact ⟨sameBut_advance s written t k n hsame, hflags, hsp, hmem⟩

theorem OnlyStores.advance (h : OnlyStores stored s t) (k n : Nat) : OnlyStores stored s (t.advance k n) :=
  onlyStores_goto s t stored _ n h

/-- Loading a pair writes its two byte registers, or SP. -/
theorem onlyRegsAndSp_setPair (s : State) (p : Pair) (v : Word) : OnlyRegsAndSp p.regs s (s.setPair p v) :=
  ⟨sameBut_setPair s p v, by simp, fun x => by simp⟩

theorem OnlyRegsAndSp.advance (h : OnlyRegsAndSp written s t) (k n : Nat) : OnlyRegsAndSp written s (t.advance k n) := by
  obtain ⟨hsame, hflags, hmem⟩ := h
  exact ⟨sameBut_advance s written t k n hsame, hflags, hmem⟩

end Frames

/-! ### The two shapes of a byte transfer: to a register, to memory -/

section Shapes

variable {i : Instr} {s : State} {k n : Nat} {v : Byte}

theorem completes_of_setReg {r : Reg} (hx : exec i s = .next ((s.setReg r v).advance k n)) :
    ∃ t, exec i s = .next t ∧ t.reg r = v ∧ OnlyRegs [r] s t ∧ EndsAfter k n s t :=
  ⟨_, hx, by simp, ((OnlyRegs.refl s [r]).setReg (List.mem_singleton_self r) v).advance k n,
    endsAfter_advance s _ k n (by simp) (by simp)⟩

theorem completes_of_writeByte {x : Word} (hx : exec i s = .next ((s.writeByte x v).advance k n)) :
    ∃ t, exec i s = .next t ∧ t.readByte x = v ∧ OnlyStores [x] s t ∧ EndsAfter k n s t :=
  ⟨_, hx, by simp, (onlyStores_writeByte s x v).advance k n, endsAfter_advance s _ k n rfl rfl⟩

end Shapes

/-- Settles O9: MOV r1,r2 is a register write. -/
theorem movBetweenRegisters : Obligations.MovBetweenRegisters := fun dst src s =>
  ⟨Instr.encode_movReg dst src, completes_of_setReg (exec_movReg s dst src)⟩

/-- Settles O10: with M as the source a register write, with M as the target a store at HL. -/
theorem movWithMemory : Obligations.MovWithMemory :=
  ⟨fun dst s => ⟨Instr.encode_movFromM dst, completes_of_setReg (exec_movFromM s dst)⟩,
    fun src s => ⟨Instr.encode_movToM src, completes_of_writeByte (exec_movToM s src)⟩⟩

/-- Settles O11: a register write, and a store at HL. -/
theorem moveImmediate : Obligations.MoveImmediate :=
  ⟨fun dst n s => ⟨Instr.encode_mviReg dst n, completes_of_setReg (exec_mviReg s dst n)⟩,
    fun n s => ⟨rfl, completes_of_writeByte (exec_mviM s n)⟩⟩

/-! ### LXI (R105) -/

/-- The byte registers of a pair that was written: none for SP, else the word's high byte and its low byte. -/
theorem map_reg_setPair (s : State) (p : Pair) (v : Word) :
    p.regs.map (s.setPair p v).reg = if p = .sp then [] else [v.hi, v.lo] := by cases p <;> rfl

@[simp] theorem State.pair_advance (s : State) (p : Pair) (k n : Nat) : (s.advance k n).pair p = s.pair p := by cases p <;> rfl

/-- Settles O12: LXI is a write to a pair. -/
theorem loadPairImmediate : Obligations.LoadPairImmediate := fun p nn s => by
  have hpair : ((s.setPair p nn).advance 3 10).pair p = nn := (State.pair_advance _ p 3 10).trans (pair_setPair s p nn)
  have hregs : p.regs.map ((s.setPair p nn).advance 3 10).reg = if p = .sp then [] else [nn.hi, nn.lo] := by
    rw [← map_reg_setPair s p nn]
    exact List.map_congr_left fun q _ => State.reg_advance _ q 3 10
  exact ⟨Instr.encode_lxi p nn, _, exec_lxi s p nn, hpair, hregs, setPair_sp_of_ne s p nn, (onlyRegsAndSp_setPair s p nn).advance 3 10,
    endsAfter_advance s _ 3 10 (by simp) (by simp)⟩

/-! ### LHLD and SHLD (R108, R109) -/

theorem lhld_completes (nn : Word) (s : State) :
    ∃ t, exec (.lhld nn) s = .next t ∧ t.l = s.readByte nn ∧ t.h = s.readByte (nn + 1) ∧ OnlyRegs [.h, .l] s t ∧ EndsAfter 3 16 s t := by
  have hframe : OnlyRegs [.h, .l] s (s.setHl (s.readWord nn)) := (OnlyRegs.refl s _).setHl (by simp) (by simp) _
  exact ⟨_, rfl, Word.lo_ofBytes _ _, Word.hi_ofBytes _ _, hframe.advance 3 16, endsAfter_advance s _ 3 16 rfl rfl⟩

theorem shld_completes (nn : Word) (s : State) :
    ∃ t, exec (.shld nn) s = .next t ∧ t.readByte nn = s.l ∧ t.readByte (nn + 1) = s.h ∧
      OnlyStores [nn, nn + 1] s t ∧ EndsAfter 3 16 s t :=
  ⟨_, rfl, by simp, by simp, (onlyStores_writeWord s nn s.hl).advance 3 16, endsAfter_advance s _ 3 16 rfl rfl⟩

/-- Settles O13: the loads of A are register writes, its stores are stores of a byte, and HL goes by word. -/
theorem directAndIndirectLoadsAndStores : Obligations.DirectAndIndirectLoadsAndStores :=
  ⟨fun _ _ => ⟨⟨rfl, completes_of_setReg (r := .a) rfl⟩, ⟨rfl, completes_of_writeByte rfl⟩⟩,
    fun p s => ⟨⟨Instr.encode_ldax p, completes_of_setReg (r := .a) (exec_ldax s p)⟩,
      ⟨Instr.encode_stax p, completes_of_writeByte (exec_stax s p)⟩⟩,
    fun nn s => ⟨⟨rfl, lhld_completes nn s⟩, ⟨rfl, shld_completes nn s⟩⟩⟩

/-! ### XCHG (R112) -/

theorem xchg_completes (s : State) :
    ∃ t, exec .xchg s = .next t ∧ t.h = s.d ∧ t.l = s.e ∧ t.d = s.h ∧ t.e = s.l ∧
      OnlyRegs [.d, .e, .h, .l] s t ∧ EndsAfter 1 4 s t := by
  have hframe : OnlyRegs [.d, .e, .h, .l] s ((s.setHl s.de).setDe s.hl) :=
    ((OnlyRegs.refl s _).setHl (by simp) (by simp) s.de).setDe (by simp) (by simp) s.hl
  exact ⟨_, rfl, State.hi_de s, State.lo_de s, State.hi_hl s, State.lo_hl s, hframe.advance 1 4, endsAfter_advance s _ 1 4 rfl rfl⟩

/-- Settles O14: the second exchange is the first from another state, so the four registers are back, and neither touches the others. -/
theorem exchangeHlWithDe : Obligations.ExchangeHlWithDe := fun s => by
  obtain ⟨t, hx, hh, hl, hd, he, hframe, hend⟩ := xchg_completes s
  obtain ⟨u, hx', hh', hl', hd', he', ⟨hsame', -⟩, -⟩ := xchg_completes t
  refine ⟨rfl, t, hx, hh, hl, hd, he, hframe, hend, u, hx', fun r => ?_⟩
  obtain ⟨hsame, -⟩ := hframe
  cases r with
  | h => exact hh'.trans hd
  | l => exact hl'.trans he
  | d => exact hd'.trans hh
  | e => exact he'.trans hl
  | b | c | a => exact (hsame'.regs _ (by decide)).trans (hsame.regs _ (by decide))

end Sys2Proof.Machine
end

section
/-! PROOFS. The arithmetic instructions and the ALU operations that write A (spec/41_arithmetic.md, 42_logical.md R170 to R178): the bytes
of their formats, the shapes of a write with its flags, and DAA's corrections; O15, O16 and O18 to O24 from it. -/

namespace Sys2Proof

/-! ### The bytes of each format with fields (30_encoding.md R81) -/

theorem Instr.encode_inrReg (r : Reg) : encode (.inrReg r) = [BitVec.ofNat 8 (0x04 + 8 * r.number)] := by cases r <;> rfl
theorem Instr.encode_dcrReg (r : Reg) : encode (.dcrReg r) = [BitVec.ofNat 8 (0x05 + 8 * r.number)] := by cases r <;> rfl
theorem Instr.encode_inx (p : Pair) : encode (.inx p) = [BitVec.ofNat 8 (0x03 + 16 * p.number)] := by cases p <;> rfl
theorem Instr.encode_dcx (p : Pair) : encode (.dcx p) = [BitVec.ofNat 8 (0x0B + 16 * p.number)] := by cases p <;> rfl
theorem Instr.encode_dad (p : Pair) : encode (.dad p) = [BitVec.ofNat 8 (0x09 + 16 * p.number)] := by cases p <;> rfl

end Sys2Proof

namespace Sys2Proof.Machine

/-- The bytes of an ALU instruction, whatever the form of its operand. -/
theorem AluSource.encode_instr (op : AluOp) (src : AluSource) : encode (src.instr op) = src.bytes op := by
  cases src with
  | reg r => cases op <;> cases r <;> rfl
  | m | imm n => cases op <;> rfl

/-! ### Frames through a write of the flags -/

section Frames

variable {s t : State} {written : List Reg}

@[simp] theorem State.reg_withFlags (s : State) (f : Flags) (r : Reg) : State.reg { s with flags := f } r = s.reg r := by
  cases r <;> rfl

theorem SameBut.withFlags (h : SameBut written s t) (f : Flags) : SameBut written s { t with flags := f } where
  regs r hr := (State.reg_withFlags t f r).trans (h.regs r hr)
  ie := h.ie
  running := h.running
  ports := { h.ports with }
  outside := { h.outside with }

theorem OnlyRegs.withFlags (h : OnlyRegs written s t) (f : Flags) : OnlyRegsAndFlags written s { t with flags := f } := by
  obtain ⟨hsame, -, hsp, hmem⟩ := h
  exact ⟨hsame.withFlags f, hsp, hmem⟩

theorem OnlyRegsAndFlags.advance (h : OnlyRegsAndFlags written s t) (k n : Nat) : OnlyRegsAndFlags written s (t.advance k n) := by
  obtain ⟨hsame, hsp, hmem⟩ := h
  exact ⟨sameBut_advance s written t k n hsame, hsp, hmem⟩

end Frames

/-! ### The shapes of an arithmetic instruction: a register or a byte at an address with the flags, a pair without -/

section Shapes

variable {i : Instr} {s : State} {k n : Nat} {v : Byte} {f : Flags}

theorem completes_of_setReg_withFlags {r : Reg} (hx : exec i s = .next ({ s.setReg r v with flags := f }.advance k n)) :
    ∃ t, exec i s = .next t ∧ t.reg r = v ∧ t.flags = f ∧ OnlyRegsAndFlags [r] s t ∧ EndsAfter k n s t := by
  have hreg : ({ s.setReg r v with flags := f }.advance k n).reg r = v :=
    (State.reg_advance _ r k n).trans ((State.reg_withFlags _ f r).trans (reg_setReg s r v))
  have hframe : OnlyRegs [r] s (s.setReg r v) := (OnlyRegs.refl s [r]).setReg (List.mem_singleton_self r) v
  exact ⟨_, hx, hreg, rfl, (hframe.withFlags f).advance k n, endsAfter_advance s _ k n (by simp) (by simp)⟩

theorem completes_of_writeByte_withFlags {x : Word} (hx : exec i s = .next ({ s.writeByte x v with flags := f }.advance k n)) :
    ∃ t, exec i s = .next t ∧ t.readByte x = v ∧ t.flags = f ∧ SameBut [] s t ∧ t.sp = s.sp ∧ SameMemBut [x] s t ∧
      EndsAfter k n s t := by
  obtain ⟨hsame, -, hsp, hmem⟩ := onlyStores_writeByte s x v
  have hread : (s.writeByte x v).readByte x = v := by simp
  exact ⟨_, hx, hread, rfl, sameBut_advance s [] _ k n (hsame.withFlags f), hsp, hmem, endsAfter_advance s _ k n rfl rfl⟩

theorem completes_of_setPair {p : Pair} {w : Word} (hx : exec i s = .next ((s.setPair p w).advance k n)) :
    ∃ t, exec i s = .next t ∧ t.pair p = w ∧ (p ≠ .sp → t.sp = s.sp) ∧ OnlyRegsAndSp p.regs s t ∧ EndsAfter k n s t :=
  ⟨_, hx, (State.pair_advance _ p k n).trans (pair_setPair s p w), setPair_sp_of_ne s p w, (onlyRegsAndSp_setPair s p w).advance k n,
    endsAfter_advance s _ k n (by simp) (by simp)⟩

/-- An ALU operation other than CMP writes its result to A, with the flags. -/
theorem completes_of_aluF {op : AluOp} {src : AluSource} {r : Byte × Flags} (hr : aluF op s.a (src.value s) s.flags = r)
    (hop : aluA op s.a r.1 = r.1 := by rfl) :
    ∃ t, exec (src.instr op) s = .next t ∧ t.a = r.1 ∧ t.flags = r.2 ∧ OnlyRegsAndFlags [.a] s t ∧
      EndsAfter src.length src.cycles s t := by
  have halu : s.alu op (src.value s) = { s.setReg .a r.1 with flags := r.2 } := by
    rw [State.alu, hr, hop]
    rfl
  have hx : exec (src.instr op) s = .next ({ s.setReg .a r.1 with flags := r.2 }.advance src.length src.cycles) := by
    rw [exec_aluSource, halu]
  exact completes_of_setReg_withFlags (r := .a) hx

end Shapes

/-! ### ADD, ADC, ADI and ACI (R140 to R145) -/

/-- Settles O15: with CY or without, the operation is ADDF (R131). -/
theorem addAndAddWithCarry : Obligations.AddAndAddWithCarry := by
  intro withCarry src s op v c
  have hc : c = bit (withCarry && s.flags.cy) := (Bool.cond_eq_ite _ _ _).symm
  have hr : aluF op s.a v s.flags = addF s.a v (withCarry && s.flags.cy) := by cases withCarry <;> rfl
  obtain ⟨t, hx, ha, hf, hframe, hend⟩ := completes_of_aluF hr (by cases withCarry <;> rfl)
  refine ⟨src.encode_instr op, t, hx, ?_⟩
  rw [ha, hf, hc]
  exact ⟨addF_result _ _ _, addF_szp _ _ _, addF_ac _ _ _, addF_cy _ _ _, hframe, hend⟩

/-! ### SUB, SBB, SUI and SBI (R146 to R151) -/

/-- AC of a difference is the carry out of bit 3 of the sum with the complement (R132). -/
theorem subF_ac_iff_carry (a b : Byte) (c : Bool) :
    (subF a b c).2.ac = true ↔ a.toNat % 16 + (~~~b).toNat % 16 + (1 - bit c) > 15 := by
  have hb := b.isLt
  have hc := bit_le_one c
  rw [subF_ac, BitVec.toNat_not]
  omega

/-- Settles O16: with CY or without, the operation is SUBF (R132). -/
theorem subtractAndSubtractWithBorrow : Obligations.SubtractAndSubtractWithBorrow := by
  intro withBorrow src s op v c
  have hc : c = bit (withBorrow && s.flags.cy) := (Bool.cond_eq_ite _ _ _).symm
  have hr : aluF op s.a v s.flags = subF s.a v (withBorrow && s.flags.cy) := by cases withBorrow <;> rfl
  obtain ⟨t, hx, ha, hf, hframe, hend⟩ := completes_of_aluF hr (by cases withBorrow <;> rfl)
  refine ⟨src.encode_instr op, t, hx, ?_⟩
  rw [ha, hf, hc]
  exact ⟨subF_result _ _ _, subF_szp _ _ _, subF_ac _ _ _, subF_ac_iff_carry _ _ _, subF_cy _ _ _, hframe, hend⟩

/-! ### ANA, XRA and ORA with their immediate forms (R170 to R178) -/

/-- Settles O18: the operation is ANDF (R133). -/
theorem andIntoAccumulator : Obligations.AndIntoAccumulator := by
  intro src s v
  obtain ⟨t, hx, ha, hf, hframe, hend⟩ := completes_of_aluF (op := .ana) (src := src) (r := andF s.a v) rfl
  refine ⟨src.encode_instr .ana, t, hx, ?_⟩
  rw [ha, hf]
  exact ⟨rfl, andF_szp _ _, andF_ac _ _, rfl, hframe, hend⟩

/-- An ALU operation that is ORF (R134) of its result. -/
theorem completes_of_orF {op : AluOp} {src : AluSource} {s : State} {r : Byte} (hr : aluF op s.a (src.value s) s.flags = orF r)
    (hop : aluA op s.a r = r := by rfl) :
    ∃ t, exec (src.instr op) s = .next t ∧ t.a = r ∧ SzpOf t.a t.flags ∧ t.flags.ac = false ∧ t.flags.cy = false ∧
      OnlyRegsAndFlags [.a] s t ∧ EndsAfter src.length src.cycles s t := by
  obtain ⟨t, hx, ha, hf, hframe, hend⟩ := completes_of_aluF hr hop
  refine ⟨t, hx, ?_⟩
  rw [ha, hf]
  exact ⟨rfl, orF_szp r, rfl, rfl, hframe, hend⟩

/-- Settles O19: both operations are ORF of their result. -/
theorem xorAndOrIntoAccumulator : Obligations.XorAndOrIntoAccumulator := fun src _ =>
  ⟨⟨src.encode_instr .xra, completes_of_orF rfl⟩, ⟨src.encode_instr .ora, completes_of_orF rfl⟩⟩

/-! ### INR and DCR (R152 to R155) -/

/-- Settles O20: a register, or the byte at HL, is written with the result and the flags of INR (R135). -/
theorem incrementByte : Obligations.IncrementByte := by
  refine ⟨fun r s => ⟨Instr.encode_inrReg r, ?_⟩, fun s => ⟨rfl, ?_⟩⟩
  · obtain ⟨t, hx, hr, hf, hframe, hend⟩ := completes_of_setReg_withFlags (exec_inrReg s r)
    refine ⟨t, hx, ?_⟩
    rw [hr, hf]
    exact ⟨incF_result _ _, incF_szp _ _, incF_ac _ _, rfl, hframe, hend⟩
  · obtain ⟨t, hx, hm, hf, hframe, hend⟩ := completes_of_writeByte_withFlags (exec_inrM s)
    refine ⟨t, hx, ?_⟩
    rw [hm, hf]
    exact ⟨incF_result _ _, incF_szp _ _, incF_ac _ _, rfl, hframe, hend⟩

/-- Settles O21: as INR, with the result and the flags of DCR (R135). -/
theorem decrementByte : Obligations.DecrementByte := by
  refine ⟨fun r s => ⟨Instr.encode_dcrReg r, ?_⟩, fun s => ⟨rfl, ?_⟩⟩
  · obtain ⟨t, hx, hr, hf, hframe, hend⟩ := completes_of_setReg_withFlags (exec_dcrReg s r)
    refine ⟨t, hx, ?_⟩
    rw [hr, hf]
    exact ⟨decF_result _ _, decF_szp _ _, decF_ac _ _, rfl, hframe, hend⟩
  · obtain ⟨t, hx, hm, hf, hframe, hend⟩ := completes_of_writeByte_withFlags (exec_dcrM s)
    refine ⟨t, hx, ?_⟩
    rw [hm, hf]
    exact ⟨decF_result _ _, decF_szp _ _, decF_ac _ _, rfl, hframe, hend⟩

/-! ### INX, DCX and DAD (R156 to R158) -/

/-- Settles O22: both write a pair, and no flag. -/
theorem incrementAndDecrementPair : Obligations.IncrementAndDecrementPair := by
  refine fun p s => ⟨⟨Instr.encode_inx p, ?_⟩, ⟨Instr.encode_dcx p, ?_⟩⟩
  · obtain ⟨t, hx, hp, hframe⟩ := completes_of_setPair (exec_inx s p)
    refine ⟨t, hx, ?_, hframe⟩
    rw [hp, BitVec.toNat_add]
    rfl
  · obtain ⟨t, hx, hp, hframe⟩ := completes_of_setPair (exec_dcx s p)
    refine ⟨t, hx, ?_, hframe⟩
    rw [hp, BitVec.toNat_sub, Nat.add_comm]
    rfl

/-- Settles O23: HL is a write to H and to L, and of the flags CY alone is replaced. -/
theorem addPairToHl : Obligations.AddPairToHl := fun p s => by
  have hframe : OnlyRegsAndFlags [.h, .l] s { s.setHl (s.hl + s.pair p) with
      flags := s.flags.setCy (decide (s.hl.toNat + (s.pair p).toNat > 0xFFFF)) } :=
    ((OnlyRegs.refl s _).setHl (by simp) (by simp) _).withFlags _
  have hsum : (s.setHl (s.hl + s.pair p)).hl = s.hl + s.pair p := pair_setPair s .hl _
  exact ⟨Instr.encode_dad p, _, exec_dad s p, (congrArg BitVec.toNat hsum).trans (BitVec.toNat_add _ _), decide_eq_true_iff,
    ⟨rfl, rfl, rfl, rfl⟩, hframe.advance 1 10, endsAfter_advance s _ 1 10 rfl rfl⟩

/-! ### DAA (R159) -/

/-- The low correction: 6 where the low nibble exceeds 9 or AC is set. -/
def daaLow (a : Byte) (f : Flags) : Nat := if a.toNat % 16 > 9 ∨ f.ac = true then 6 else 0

/-- Both corrections: what DAA adds to A. -/
def daaCorrection (a : Byte) (f : Flags) : Nat := daaLow a f + (if f.cy = true ∨ a.toNat > 0x99 then 0x60 else 0)

theorem daaLow_le (a : Byte) (f : Flags) : daaLow a f ≤ 6 := by
  unfold daaLow
  split <;> decide

/-- The low correction as the model has it, a byte. -/
theorem ofNat_daaLow (a : Byte) (f : Flags) :
    (if lowNibble a > 9 ∨ f.ac = true then 0x06 else 0x00) = BitVec.ofNat 8 (daaLow a f) := by
  rw [daaLow, lowNibble_eq_mod]
  split <;> rfl

/-- The corrected high nibble adds nothing to the condition of the high correction: from 0x99 down, 6 more stays below 0xA0. -/
theorem daa_high_iff (a : Byte) (f : Flags) :
    ((a.toNat + daaLow a f) % 256) / 16 * 16 > 0x90 ∨ f.cy = true ∨ a.toNat > 0x99 ↔ f.cy = true ∨ a.toNat > 0x99 := by
  have hlow := daaLow_le a f
  refine ⟨fun h => ?_, .inr⟩
  rcases h with hnibble | hhigh
  · exact .inr (by omega)
  · exact hhigh

theorem toNat_and_highNibble (w : Byte) : (w &&& 0xF0).toNat = w.toNat / 16 * 16 := by
  revert w
  decide

/-- The condition of the high correction as the model has it, on the byte with the low correction made. -/
theorem daa_highNibble_iff (a : Byte) (f : Flags) :
    ((a + BitVec.ofNat 8 (daaLow a f)) &&& 0xF0).toNat > 0x90 ∨ f.cy = true ∨ a.toNat > 0x99 ↔ f.cy = true ∨ a.toNat > 0x99 := by
  rw [toNat_and_highNibble, BitVec.toNat_add, BitVec.toNat_ofNat, Nat.add_mod_mod]
  exact daa_high_iff a f

/-- Both corrections as the model has them, a byte. -/
theorem ofNat_daaCorrection (a : Byte) (f : Flags) :
    (if f.cy = true ∨ a.toNat > 0x99 then BitVec.ofNat 8 (daaLow a f) + 0x60 else BitVec.ofNat 8 (daaLow a f)) =
      BitVec.ofNat 8 (daaCorrection a f) := by
  unfold daaCorrection
  split
  · exact (BitVec.ofNat_add _ _).symm
  · rfl

/-- DAA is a sum with the correction, whose flags but CY are those of ADDF (R131). -/
theorem daaF_eq (a : Byte) (f : Flags) :
    daaF a f = (a + BitVec.ofNat 8 (daaCorrection a f),
      szp (a + BitVec.ofNat 8 (daaCorrection a f)) (decide (lowNibble a + lowNibble (BitVec.ofNat 8 (daaCorrection a f)) > 0x0F))
        (decide (f.cy = true ∨ a.toNat > 0x99) || f.cy)) := by
  simp only [daaF, ofNat_daaLow, daa_highNibble_iff, decide_eq_true_eq, ofNat_daaCorrection]

theorem daaF_result (a : Byte) (f : Flags) : (daaF a f).1.toNat = (a.toNat + daaCorrection a f) % 256 := by
  rw [daaF_eq, BitVec.toNat_add, BitVec.toNat_ofNat, Nat.add_mod_mod]

theorem daaF_szp (a : Byte) (f : Flags) : SzpOf (daaF a f).1 (daaF a f).2 := szp_is_SzpOf _ _ _

theorem daaF_ac (a : Byte) (f : Flags) : (daaF a f).2.ac = true ↔ a.toNat % 16 + daaCorrection a f % 16 > 15 := by
  have hmod : daaCorrection a f % 2 ^ 8 % 16 = daaCorrection a f % 16 := Nat.mod_mod_of_dvd _ (by decide)
  rw [daaF_eq, szp_ac, lowNibble_eq_mod, lowNibble_eq_mod, BitVec.toNat_ofNat, hmod, decide_eq_true_eq]

theorem daaF_cy (a : Byte) (f : Flags) : (daaF a f).2.cy = true ↔ f.cy = true ∨ a.toNat > 0x99 := by
  rw [daaF_eq, szp_cy, Bool.or_eq_true, decide_eq_true_eq]
  exact or_iff_left_of_imp .inl

/-- Settles O24: DAA is a write to A with the flags, of the sum with both corrections. -/
theorem decimalAdjust : Obligations.DecimalAdjust := by
  intro s a low highCond v
  have hhigh : highCond ↔ s.flags.cy = true ∨ a > 0x99 := daa_high_iff s.a s.flags
  have hcy := daaF_cy s.a s.flags
  have hexec : exec .daa s = .next ({ s.setReg .a (daaF s.a s.flags).1 with flags := (daaF s.a s.flags).2 }.advance 1 4) := rfl
  obtain ⟨t, hx, ha, hf, hframe, hend⟩ := completes_of_setReg_withFlags hexec
  rw [State.reg_a] at ha
  refine ⟨rfl, hhigh, t, hx, ?_⟩
  rw [ha, hf]
  exact ⟨daaF_result _ _, daaF_szp _ _, daaF_ac _ _, hcy.trans hhigh.symm, fun h => hcy.mpr (.inl h), hframe, hend⟩

end Sys2Proof.Machine
end

section
/-! PROOFS. Compare, the rotates and the complement and carry instructions (spec/42_logical.md R179 to R188): the shapes of a write of the
flags alone and of CY alone, and the rotates bit by bit; O17, O25 and O26 from it. -/

namespace Sys2Proof.Machine

/-! ### The shapes: the flags alone, CY alone, A with CY -/

section Shapes

variable {i : Instr} {s : State} {k n : Nat}

theorem sameFlagsButCy_of_setCy {t : State} {c : Bool} (h : t.flags = s.flags.setCy c) : SameFlagsButCy s t := by
  rw [SameFlagsButCy, h]
  exact ⟨rfl, rfl, rfl, rfl⟩

theorem completes_of_withFlags {f : Flags} (hx : exec i s = .next ({ s with flags := f }.advance k n)) :
    ∃ t, exec i s = .next t ∧ t.flags = f ∧ OnlyRegsAndFlags [] s t ∧ EndsAfter k n s t :=
  ⟨_, hx, rfl, ((OnlyRegs.refl s []).withFlags f).advance k n, endsAfter_advance s _ k n rfl rfl⟩

theorem completes_of_setCy {c : Bool} (hx : exec i s = .next ({ s with flags := s.flags.setCy c }.advance k n)) :
    ∃ t, exec i s = .next t ∧ t.flags.cy = c ∧ SameFlagsButCy s t ∧ OnlyRegsAndFlags [] s t ∧ EndsAfter k n s t := by
  obtain ⟨t, hx, hf, hframe, hend⟩ := completes_of_withFlags hx
  exact ⟨t, hx, congrArg Flags.cy hf, sameFlagsButCy_of_setCy hf, hframe, hend⟩

/-- A result for A whose flags differ from the old ones in CY alone. -/
theorem completes_of_withA_setCy {r : Byte × Flags} (hx : exec i s = withA r n s) (hr : r.2 = s.flags.setCy r.2.cy) :
    ∃ t, exec i s = .next t ∧ t.a = r.1 ∧ t.flags.cy = r.2.cy ∧ SameFlagsButCy s t ∧ OnlyRegsAndFlags [.a] s t ∧ EndsAfter 1 n s t := by
  have hset : exec i s = .next ({ s.setReg .a r.1 with flags := r.2 }.advance 1 n) := hx
  obtain ⟨t, hx, ha, hf, hframe, hend⟩ := completes_of_setReg_withFlags hset
  exact ⟨t, hx, ha, congrArg Flags.cy hf, sameFlagsButCy_of_setCy (hf.trans hr), hframe, hend⟩

end Shapes

/-! ### CMP and CPI (R179 to R181) -/

/-- CMP discards the difference: the flags alone are replaced. -/
theorem State.alu_cmp (s : State) (v : Byte) : s.alu .cmp v = { s with flags := (subF s.a v false).2 } := rfl

theorem subF_false_fst (a b : Byte) : (subF a b false).1 = a - b := BitVec.sub_zero (a - b)

/-- Settles O17: the flags are those of SUBF (R132) without a borrow, and the difference is 0 exactly when A equals the operand. -/
theorem compareDiscardsTheDifference : Obligations.CompareDiscardsTheDifference := by
  intro src s v
  have hcmp : exec (src.instr .cmp) s = .next ({ s with flags := (subF s.a v false).2 }.advance src.length src.cycles) := by
    rw [exec_aluSource, State.alu_cmp]
  obtain ⟨t, hx, hf, hframe, hend⟩ := completes_of_withFlags hcmp
  have hszp : SzpOf (s.a - v) (subF s.a v false).2 := subF_false_fst s.a v ▸ subF_szp s.a v false
  obtain ⟨hs, hz, hp⟩ := hszp
  refine ⟨src.encode_instr .cmp, t, hx, ?_⟩
  rw [hf]
  exact ⟨⟨hs, hz, hp⟩, hz.trans sub_eq_zero, subF_ac s.a v false, subF_cy s.a v false, hframe, hend⟩

/-! ### RLC, RRC, RAL and RAR (R182 to R185), bit by bit -/

theorem getElem_ofNat_bit (b : Bool) {k : Nat} (hk : k < 8) : (BitVec.ofNat 8 (bit b))[k] = (decide (k = 0) && b) := by
  cases b <;> simp [bit]

/-- A shift to the left that takes a bit in at the low end. -/
theorem getElem_shiftLeft_or_bit (a : Byte) (b : Bool) {k : Nat} (hk : k < 8) :
    ((a <<< 1) ||| BitVec.ofNat 8 (bit b))[k] = if k = 0 then b else a[k - 1] := by
  rw [BitVec.getElem_or, BitVec.getElem_shiftLeft, getElem_ofNat_bit]
  cases k with
  | zero => simp
  | succ j => simp

/-- A shift to the right that takes a bit in at the high end. -/
theorem getElem_shiftRight_or_bit (a : Byte) (b : Bool) {k : Nat} (hk : k < 8) :
    ((a >>> 1) ||| (BitVec.ofNat 8 (bit b) <<< 7))[k] = if h : k < 7 then a[1 + k] else b := by
  rw [BitVec.getElem_or, BitVec.getElem_ushiftRight, BitVec.getElem_shiftLeft, getElem_ofNat_bit]
  by_cases h : k < 7
  · have hlow : 1 + k < 8 := by omega
    simp [h, BitVec.getLsbD_eq_getElem hlow]
  · obtain rfl : k = 7 := by omega
    simp

/-- The nine bits CY : A. -/
theorem getElem_cy_append (c : Bool) (a : Byte) {k : Nat} (hk : k < 1 + 8) :
    (BitVec.ofBool c ++ a)[k] = if h : k < 8 then a[k] else c := by
  rw [BitVec.getElem_append]
  simp

theorem rlcF_fst (a : Byte) (f : Flags) : (rlcF a f).1 = a.rotateLeft 1 := by
  ext k hk
  rw [rlcF, getElem_shiftLeft_or_bit, BitVec.getElem_rotateLeft]
  cases k with
  | zero => rfl
  | succ j => simp

theorem rrcF_fst (a : Byte) (f : Flags) : (rrcF a f).1 = a.rotateRight 1 := by
  ext k hk
  rw [rrcF, getElem_shiftRight_or_bit, BitVec.getElem_rotateRight]
  by_cases h : k < 7
  · simp [h]
  · obtain rfl : k = 7 := by omega
    rfl

theorem ralF_nineBits (a : Byte) (f : Flags) :
    BitVec.ofBool (ralF a f).2.cy ++ (ralF a f).1 = (BitVec.ofBool f.cy ++ a).rotateLeft 1 := by
  ext k hk
  simp only [ralF, BitVec.getElem_rotateLeft, getElem_cy_append, getElem_shiftLeft_or_bit]
  obtain rfl | rfl | ⟨h0, h8⟩ : k = 0 ∨ k = 8 ∨ k ≠ 0 ∧ k < 8 := by omega
  · rfl
  · rfl
  · have hlow : k - 1 < 8 := by omega
    simp [h0, h8, hlow]

theorem rarF_nineBits (a : Byte) (f : Flags) :
    BitVec.ofBool (rarF a f).2.cy ++ (rarF a f).1 = (BitVec.ofBool f.cy ++ a).rotateRight 1 := by
  ext k hk
  simp only [rarF, BitVec.getElem_rotateRight, getElem_cy_append, getElem_shiftRight_or_bit]
  obtain rfl | rfl | h7 : k = 7 ∨ k = 8 ∨ k < 7 := by omega
  · rfl
  · rfl
  · have h8 : k < 8 := by omega
    have hlow : 1 + k < 8 := by omega
    simp [h7, h8, hlow]

/-- Settles O25: each rotate writes A and CY, of the rotation of the eight bits or of the nine. -/
theorem rotateAccumulator : Obligations.RotateAccumulator := by
  refine fun s => ⟨⟨rfl, ?rlc⟩, ⟨rfl, ?rrc⟩, ⟨rfl, ?ral⟩, ⟨rfl, ?rar⟩⟩
  case rlc =>
    obtain ⟨t, hx, ha, hcy, hframe⟩ := completes_of_withA_setCy (i := .rlc) (r := rlcF s.a s.flags) rfl rfl
    exact ⟨t, hx, ha.trans (rlcF_fst s.a s.flags), hcy, hframe⟩
  case rrc =>
    obtain ⟨t, hx, ha, hcy, hframe⟩ := completes_of_withA_setCy (i := .rrc) (r := rrcF s.a s.flags) rfl rfl
    exact ⟨t, hx, ha.trans (rrcF_fst s.a s.flags), hcy, hframe⟩
  case ral =>
    obtain ⟨t, hx, ha, hcy, hframe⟩ := completes_of_withA_setCy (i := .ral) (r := ralF s.a s.flags) rfl rfl
    refine ⟨t, hx, ?_, hframe⟩
    rw [ha, hcy, ralF_nineBits]
  case rar =>
    obtain ⟨t, hx, ha, hcy, hframe⟩ := completes_of_withA_setCy (i := .rar) (r := rarF s.a s.flags) rfl rfl
    refine ⟨t, hx, ?_, hframe⟩
    rw [ha, hcy, rarF_nineBits]

/-! ### CMA, CMC and STC (R186 to R188) -/

/-- Settles O26: CMA is a register write; CMC and STC replace CY alone. -/
theorem complementAndCarryInstructions : Obligations.ComplementAndCarryInstructions := by
  refine fun s => ⟨⟨rfl, ?cma⟩, ⟨rfl, completes_of_setCy rfl⟩, ⟨rfl, completes_of_setCy rfl⟩⟩
  have hcma : exec .cma s = .next ((s.setReg .a (~~~s.a)).advance 1 4) := rfl
  obtain ⟨t, hx, ha, hframe⟩ := completes_of_setReg hcma
  rw [State.reg_a] at ha
  refine ⟨t, hx, fun k => ?_, hframe⟩
  rw [ha]
  exact BitVec.getElem_not k.isLt

end Sys2Proof.Machine
end

section
/-! PROOFS. The jumps, calls, returns and restarts (spec/43_branch.md): the bytes of the formats with a condition or a vector, and the
shapes in which such an instruction completes: a jump, a push and a jump, a return, the next instruction, and a choice by a condition;
O27 to O31 from it. -/

namespace Sys2Proof

/-! ### The bytes of each format with fields (30_encoding.md R81) -/

theorem Instr.encode_jcc (cc : Cond) (nn : Word) : encode (.jcc cc nn) = [BitVec.ofNat 8 (0xC2 + 8 * cc.number), nn.lo, nn.hi] := by
  cases cc <;> rfl
theorem Instr.encode_ccc (cc : Cond) (nn : Word) : encode (.ccc cc nn) = [BitVec.ofNat 8 (0xC4 + 8 * cc.number), nn.lo, nn.hi] := by
  cases cc <;> rfl
theorem Instr.encode_rcc (cc : Cond) : encode (.rcc cc) = [BitVec.ofNat 8 (0xC0 + 8 * cc.number)] := by cases cc <;> rfl

theorem Instr.encode_rst (n : BitVec 3) : encode (.rst n) = [BitVec.ofNat 8 (0xC7 + 8 * n.toNat)] := by
  revert n
  decide

end Sys2Proof

namespace Sys2Proof.Machine

/-! ### The shapes of a transfer -/

section Shapes

variable {i : Instr} {s t : State} {written : List Reg} {target : Word} {n : Nat}

theorem OnlyRegs.goto (h : OnlyRegs written s t) (target : Word) (n : Nat) : OnlyRegs written s (t.goto target n) := by
  obtain ⟨hsame, hflags, hsp, hmem⟩ := h
  exact ⟨sameBut_goto s written t target n hsame, hflags, hsp, hmem⟩

theorem OnlyRegsAndSp.goto (h : OnlyRegsAndSp written s t) (target : Word) (n : Nat) : OnlyRegsAndSp written s (t.goto target n) := by
  obtain ⟨hsame, hflags, hmem⟩ := h
  exact ⟨sameBut_goto s written t target n hsame, hflags, hmem⟩

theorem onlyRegsAndSp_drop16 (s : State) (written : List Reg) : OnlyRegsAndSp written s s.drop16 :=
  ⟨⟨fun r _ => s.reg_drop16 r, rfl, rfl, ⟨rfl, rfl, rfl, rfl, rfl, rfl⟩, ⟨rfl, rfl, rfl, rfl, rfl, rfl, rfl, rfl, rfl, rfl, rfl⟩⟩,
    rfl, fun _ => rfl⟩

theorem completes_of_goto (hx : exec i s = .next (s.goto target n)) :
    ∃ t, exec i s = .next t ∧ WentTo target n s t ∧ OnlyRegs [] s t :=
  ⟨_, hx, wentTo_goto s s target n rfl, (OnlyRegs.refl s []).goto target n⟩

theorem pushed_and_wentTo (s : State) (v target : Word) (n : Nat) :
    Pushed v s ((s.push16 v).goto target n) ∧ WentTo target n s ((s.push16 v).goto target n) :=
  ⟨pushed_goto s v target n, wentTo_goto s _ target n (s.push16_cyc v)⟩

/-- The return pops the word that stands at the top of the stack before it. -/
theorem returned_to_topOfStack (s : State) (n : Nat) :
    WentTo (topOfStack s) n s (s.returnPopped n) ∧ (s.returnPopped n).sp = s.sp + 2 ∧ OnlyRegsAndSp [] s (s.returnPopped n) :=
  ⟨wentTo_goto s s.drop16 (topOfStack s) n rfl, rfl, (onlyRegsAndSp_drop16 s []).goto s.top16 n⟩

/-- What a transfer leaves where its condition does not hold: the next instruction follows. -/
theorem onlyRegs_and_endsAfter (s : State) (k n : Nat) : OnlyRegs [] s (s.advance k n) ∧ EndsAfter k n s (s.advance k n) :=
  ⟨(OnlyRegs.refl s []).advance k n, endsAfter_advance s s k n rfl rfl⟩

/-- An instruction that goes one of two ways, by a condition. -/
theorem completes_of_choice {c : Bool} {u v : State} {P Q : State → Prop} (hx : exec i s = if c then .next u else .next v)
    (hu : P u) (hv : Q v) : ∃ t, exec i s = .next t ∧ (if c then P t else Q t) := by
  cases c with
  | true => exact ⟨u, hx, hu⟩
  | false => exact ⟨v, hx, hv⟩

end Shapes

/-! ### Jumps (R200, R201, R207, R208) -/

/-- Jcc takes the same cycles both ways, so it is one jump, the condition choosing its target. -/
theorem jumpIf_eq_goto (cc : Cond) (nn : Word) (s : State) :
    jumpIf cc nn s = .next (s.goto (if condHolds cc s.flags then nn else s.pc + 3) 10) :=
  (apply_ite (fun target => Host.Outcome.next (s.goto target 10)) _ nn (s.pc + 3)).symm

/-- Settles O27: each is a jump, and what follows a Jcc is the target where its condition does not hold. -/
theorem jumpsGoToTheirTarget : Obligations.JumpsGoToTheirTarget := by
  refine ⟨fun nn s => ⟨⟨rfl, completes_of_goto rfl⟩, ⟨rfl, completes_of_goto rfl⟩, ⟨rfl, completes_of_goto rfl⟩⟩, fun cc nn s => ?_⟩
  obtain ⟨t, hx, hwent, hframe⟩ := completes_of_goto ((exec_jcc s cc nn).trans (jumpIf_eq_goto cc nn s))
  refine ⟨Instr.encode_jcc cc nn, t, hx, hframe, ?_⟩
  by_cases hcc : condHolds cc s.flags = true
  · rw [if_pos hcc] at hwent ⊢
    exact hwent
  · rw [if_neg hcc] at hwent ⊢
    exact hwent

/-! ### Calls and restarts (R202, R203, R206, R209) -/

/-- Settles O28: the four opcodes share the push of pc + 3 and the jump. -/
theorem callPushesTheReturnAddress : Obligations.CallPushesTheReturnAddress := by
  intro nn s i hi
  have hcall : (encode i).tail = [nn.lo, nn.hi] ∧ exec i s = callTo nn s := by
    simp only [List.mem_cons, List.not_mem_nil, or_false] at hi
    rcases hi with rfl | rfl | rfl | rfl <;> exact ⟨rfl, rfl⟩
  exact ⟨hcall.left, rfl, _, hcall.right, pushed_and_wentTo s (s.pc + 3) nn 17⟩

/-- Settles O29: the push and the jump of CALL, or the next instruction. -/
theorem conditionalCall : Obligations.ConditionalCall := fun cc nn s =>
  ⟨Instr.encode_ccc cc nn, completes_of_choice (exec_ccc s cc nn) (pushed_and_wentTo s (s.pc + 3) nn 17) (onlyRegs_and_endsAfter s 3 11)⟩

/-- Settles O31: a push of pc + 1 and a jump to the vector; a push keeps IE. -/
theorem restartCallsItsVector : Obligations.RestartCallsItsVector := by
  intro n s
  obtain ⟨hpush, hwent⟩ := pushed_and_wentTo s (s.pc + 1) (restartVector n) 11
  rw [restartVector_eq] at hwent
  exact ⟨Instr.encode_rst n, _, exec_rst s n, hpush, hwent, s.push16_ie (s.pc + 1)⟩

/-! ### Returns (R204, R205, R210) -/

/-- Settles O30: the return of RET and RET*, and of Rcc where its condition holds. -/
theorem returnPopsThePc : Obligations.ReturnPopsThePc := by
  refine ⟨fun s i hi => ?_, fun cc s => ⟨Instr.encode_rcc cc, ?_⟩⟩
  · have hret : exec i s = returnAlways s := by
      simp only [List.mem_cons, List.not_mem_nil, or_false] at hi
      rcases hi with rfl | rfl <;> rfl
    exact ⟨⟨rfl, rfl⟩, _, hret, returned_to_topOfStack s 10⟩
  · exact completes_of_choice (exec_rcc s cc) (returned_to_topOfStack s 11) (onlyRegs_and_endsAfter s 1 5)

end Sys2Proof.Machine
end

section
/-! PROOFS. The stack and machine control (spec/44_stack_control.md): a push and a pop of a word, the shapes in which an instruction over
them completes, and the turn that HLT ends; O32 to O37 from it. -/

namespace Sys2Proof

/-! ### The bytes of each format with fields (30_encoding.md R81) -/

theorem Instr.encode_push (p : StackPair) : encode (.push p) = [BitVec.ofNat 8 (0xC5 + 16 * p.number)] := by cases p <;> rfl
theorem Instr.encode_pop (p : StackPair) : encode (.pop p) = [BitVec.ofNat 8 (0xC1 + 16 * p.number)] := by cases p <;> rfl

/-! ### The two registers of a pair (10_state.md R22) -/

theorem StackPair.high_ne_low (p : StackPair) : p.high ≠ p.low := by cases p <;> decide

end Sys2Proof

namespace Sys2Proof.Machine

/-! ### PUSH16 and POP16 (R230) -/

/-- A push alone, without the end of an instruction behind it. -/
theorem pushed_push16 (s : State) (v : Word) : Pushed v s (s.push16 v) := by
  obtain ⟨hsp, hlo, hhi, -, hflags, hmem⟩ := pushed_goto s v s.pc 0
  exact ⟨hsp, hlo, hhi, sameBut_push16 s v, hflags, hmem⟩

@[simp] theorem State.lo_top16 (s : State) : s.top16.lo = s.readByte s.sp := Word.lo_ofBytes _ _
@[simp] theorem State.hi_top16 (s : State) : s.top16.hi = s.readByte (s.sp + 1) := Word.hi_ofBytes _ _

/-- Settles O32: the pop reads the word at the address where the push has just written it. -/
theorem pushThenPopRecoversTheWord : Obligations.PushThenPopRecoversTheWord := fun s v =>
  ⟨pushed_push16 s v, rfl, rfl, rfl, rfl, s.readWord_writeWord (s.sp - 2) v, BitVec.sub_add_cancel s.sp 2⟩

/-! ### The pairs of PUSH and POP (10_state.md R22, R25) -/

theorem State.stackPair_eq_ofBytes (s : State) (p : StackPair) : s.stackPair p = Word.ofBytes (s.reg p.high) (s.reg p.low) := by
  cases p <;> rfl

theorem State.setStackPair_eq_setReg (s : State) (p : StackPair) (v : Word) :
    s.setStackPair p v = (s.setReg p.high v.hi).setReg p.low v.lo := by cases p <;> rfl

theorem State.low_setStackPair (s : State) (p : StackPair) (v : Word) : (s.setStackPair p v).reg p.low = v.lo := by
  rw [State.setStackPair_eq_setReg, State.reg_setReg, if_pos rfl]

theorem State.high_setStackPair (s : State) (p : StackPair) (v : Word) : (s.setStackPair p v).reg p.high = v.hi := by
  rw [State.setStackPair_eq_setReg, State.reg_setReg, if_neg p.high_ne_low, State.reg_setReg, if_pos rfl]

/-! ### Frames through the writes of a pair -/

section Frames

variable {s t : State} {written : List Reg}

theorem SameBut.of_nil (h : SameBut [] s t) (written : List Reg) : SameBut written s t :=
  { h with regs := fun r _ => h.regs r List.not_mem_nil }

theorem SameBut.setStackPair {p : StackPair} (h : SameBut written s t) (hhigh : p.high ∈ written) (hlow : p.low ∈ written) (v : Word) :
    SameBut written s (t.setStackPair p v) := by
  rw [State.setStackPair_eq_setReg]
  exact (h.setReg hhigh v.hi).setReg hlow v.lo

end Frames

/-! ### PUSH (R231, R232) -/

theorem completes_of_push16 {i : Instr} {s : State} {v : Word} {k n : Nat} (hx : exec i s = .next ((s.push16 v).advance k n)) :
    ∃ t, exec i s = .next t ∧ Pushed v s t ∧ EndsAfter k n s t :=
  ⟨_, hx, pushed_goto s v _ n, endsAfter_advance s _ k n rfl rfl⟩

/-- Settles O33: each is the push of a word, of the pair or of A above F. -/
theorem pushPairAndPsw : Obligations.PushPairAndPsw := by
  refine ⟨fun p s => ⟨Instr.encode_push p, ?_⟩, fun s => ⟨rfl, completes_of_push16 rfl⟩⟩
  rw [← s.stackPair_eq_ofBytes p]
  exact completes_of_push16 (exec_push s p)

/-! ### POP (R233, R234) -/

theorem pop_completes (p : StackPair) (s : State) :
    ∃ t, exec (.pop p) s = .next t ∧ t.reg p.low = s.readByte s.sp ∧ t.reg p.high = s.readByte (s.sp + 1) ∧ t.sp = s.sp + 2 ∧
      OnlyRegsAndSp [p.high, p.low] s t ∧ EndsAfter 1 10 s t := by
  obtain ⟨hsame, -⟩ := onlyRegsAndSp_drop16 s [p.high, p.low]
  have hpair : SameBut [p.high, p.low] s (s.drop16.setStackPair p s.top16) := hsame.setStackPair (by simp) (by simp) s.top16
  refine ⟨_, exec_pop s p, ?low, ?high, by simp, ⟨sameBut_advance s _ _ 1 10 hpair, by simp, fun x => by simp⟩,
    endsAfter_advance s _ 1 10 (by simp) (by simp)⟩
  case low => rw [State.reg_advance, State.low_setStackPair, State.lo_top16]
  case high => rw [State.reg_advance, State.high_setStackPair, State.hi_top16]

/-- F keeps of the popped byte what the mask of 10_state.md R27 keeps. -/
theorem popPsw_completes (s : State) :
    ∃ t, exec .popPsw s = .next t ∧ t.a = s.readByte (s.sp + 1) ∧ t.f = (s.readByte s.sp &&& 0xD7) ||| 0x02 ∧ t.sp = s.sp + 2 ∧
      SameBut [.a] s t ∧ SameMem s t ∧ EndsAfter 1 10 s t := by
  obtain ⟨hsame, -, hmem⟩ := onlyRegsAndSp_drop16 s [.a]
  have hpsw : SameBut [.a] s { s.drop16.setReg .a s.top16.hi with flags := Flags.unpack s.top16.lo } :=
    (hsame.setReg (by simp) s.top16.hi).withFlags _
  have hf : (Flags.unpack s.top16.lo).pack = (s.readByte s.sp &&& 0xD7) ||| 0x02 := by rw [Flags.pack_unpack, State.lo_top16]
  exact ⟨_, rfl, s.hi_top16, hf, rfl, sameBut_advance s _ _ 1 10 hpsw, hmem, endsAfter_advance s _ 1 10 rfl rfl⟩

/-- Settles O34: a pair is loaded by its two bytes, and A and F by the bytes of the popped word. -/
theorem popPairAndPsw : Obligations.PopPairAndPsw :=
  ⟨fun p s => ⟨Instr.encode_pop p, pop_completes p s⟩, fun s => ⟨rfl, popPsw_completes s⟩⟩

/-! ### XTHL and SPHL (R235, R236) -/

theorem xthl_completes (s : State) :
    ∃ t, exec .xthl s = .next t ∧ t.l = s.readByte s.sp ∧ t.h = s.readByte (s.sp + 1) ∧
      t.readByte s.sp = s.l ∧ t.readByte (s.sp + 1) = s.h ∧ t.sp = s.sp ∧ t.flags = s.flags ∧
      SameBut [.h, .l] s t ∧ SameMemBut [s.sp, s.sp + 1] s t ∧ EndsAfter 1 18 s t := by
  obtain ⟨hsame, -, -, hmem⟩ := onlyStores_writeWord s s.sp s.hl
  have hexchange : SameBut [.h, .l] s ((s.writeWord s.sp s.hl).setHl s.top16) :=
    (hsame.of_nil _).setStackPair (p := .hl) (by decide) (by decide) s.top16
  exact ⟨_, rfl, s.lo_top16, s.hi_top16, by simp, by simp, rfl, rfl, sameBut_advance s _ _ 1 18 hexchange, hmem,
    endsAfter_advance s _ 1 18 rfl rfl⟩

/-- Settles O35: XTHL writes HL over the word it has read, and SPHL is a write to the pair SP. -/
theorem exchangeStackTopAndLoadSp : Obligations.ExchangeStackTopAndLoadSp := by
  refine fun s => ⟨⟨rfl, xthl_completes s⟩, rfl, ?_⟩
  have hsphl : exec .sphl s = .next ((s.setPair .sp s.hl).advance 1 5) := rfl
  obtain ⟨t, hx, hsp, -, hframe⟩ := completes_of_setPair hsphl
  exact ⟨t, hx, hsp, hframe⟩

/-! ### NOP, EI and DI (R240 to R243) -/

/-- Settles O36: the eight opcodes of NOP share one meaning, the end of the instruction. -/
theorem noOperationAndInterruptLatch : Obligations.NoOperationAndInterruptLatch := by
  refine fun s => ⟨rfl, fun i hi => ?_, rfl, ⟨rfl, rfl⟩, rfl, rfl⟩
  have hnop : exec i s = noOperation s := by
    simp only [List.mem_cons, List.not_mem_nil, or_false] at hi
    rcases hi with rfl | rfl | rfl | rfl | rfl | rfl | rfl | rfl <;> rfl
  exact ⟨_, hnop, onlyRegs_and_endsAfter s 1 4⟩

/-! ### HLT (R244; 60_exceptions.md R334) -/

section Halt

variable {s t : State}

theorem step_of_over (h : s.over = true) : step s = .refused .runOver := if_pos h

/-- A stopped machine has no step (R334; log entry 5). -/
theorem step_of_stopped (h : s.running = false) : step s = .refused .runOver :=
  step_of_over (by rw [State.over, h]; rfl)

/-- A request does not start a stopped machine again. -/
theorem requestInterrupt_of_stopped (h : s.running = false) (n : BitVec 3) : (requestInterrupt n s).running = false :=
  (requestInterrupt_running s n).trans h

/-- The stop is taken ahead of the frame boundary, whatever ACC has come to (R334; D33). -/
theorem afterStep_of_stopped (h : t.running = false) : afterStep s t = .next { t with acc := s.acc + cyclesConsumed s t } :=
  if_neg (Bool.eq_false_iff.mp h)

/-- What follows the opcode byte is left over, whatever it is (30_encoding.md R83). -/
theorem decode_fetch_hlt (h : s.readByte s.pc = 0x76) :
    decode s.fetch = .ok (.hlt, [s.readByte (s.pc + 1), s.readByte (s.pc + 2)]) := by
  rw [State.fetch, h]
  exact decodeOfEncodeIsTheInstruction .hlt _

/-- The turn that runs HLT: the CPU step, and its cycles counted. -/
theorem step_hlt (hover : s.over = false) (hheld : s.held = false) (h : s.readByte s.pc = 0x76) :
    step s = .next { s.stop.advance 1 7 with acc := s.acc + cyclesConsumed s (s.stop.advance 1 7) } := by
  have hcpu : cpuStep s = .next (s.stop.advance 1 7) := cpuStep_of_decode (decode_fetch_hlt h)
  rw [step_of_live hover hheld, hcpu]
  exact afterStep_of_stopped rfl

end Halt

/-- Settles O37: HLT stops the machine and its turn ends there; with Running false no step is left, and a request leaves it false. -/
theorem haltEndsTheRun : Obligations.HaltEndsTheRun := by
  refine ⟨fun s => ⟨rfl, rfl⟩, fun s hrun hshut hheld hop => ?_⟩
  refine ⟨_, step_hlt (State.over_eq_false hrun hshut) hheld hop, rfl, rfl, rfl, rfl, step_of_stopped rfl, fun n => ?_⟩
  exact ⟨requestInterrupt_of_stopped rfl n, step_of_stopped (requestInterrupt_of_stopped rfl n)⟩

end Sys2Proof.Machine
end

section
/-! PROOFS. The port handler (spec/45_io_ports.md): what IN leaves in A, the byte shifted in, what a sound bank does to the loops, and the
bytes of the console; O38 to O42 from it. -/

namespace Sys2Proof.Machine

/-! ### IN (R261 to R264) -/

/-- IN is a write to A: of the port's value, or of A itself where the port has none. -/
theorem exec_inPort (p : Byte) (s : State) : exec (.inPort p) s = .next ((s.setReg .a ((ioRead p s).getD s.a)).advance 2 10) := by
  have hin : exec (.inPort p) s = inputFrom p s := rfl
  rw [hin, inputFrom]
  cases ioRead p s <;> rfl

/-- Bit `k` of the window is bit `8 - SO + k` of SR (R263). -/
theorem getLsbD_shiftWindow (s : State) {k : Nat} (hk : k < 8) : s.shiftWindow.getLsbD k = s.sr.getLsbD (8 - s.so.toNat + k) := by
  simp [State.shiftWindow, hk]

/-- Settles O38: A is written with the value of the port, which each clause names, or keeps its own. -/
theorem inputReadsThePort : Obligations.InputReadsThePort := by
  intro p s
  obtain ⟨t, hx, ha, hframe, hend⟩ := completes_of_setReg (exec_inPort p s)
  replace ha : t.a = (ioRead p s).getD s.a := ha
  refine ⟨rfl, t, hx, hframe, hend, ?port0, ?port1, ?port2, ?port3, ?noPort⟩
  case port0 => rintro rfl; rw [ha, ioRead_0, Option.getD_some]
  case port1 => rintro rfl; rw [ha, ioRead_1, Option.getD_some]
  case port2 => rintro rfl; rw [ha, ioRead_2, Option.getD_some]
  case port3 =>
    rintro rfl k hk
    rw [ha, ioRead_3, Option.getD_some, getLsbD_shiftWindow s hk]
  case noPort =>
    intro hp
    rw [ha, ioRead_other s p hp, Option.getD_none]

/-! ### OUT: the handler, and the end of the instruction (R265) -/

theorem exec_outPort_of_next {p : Byte} {s t : State} (h : ioWrite p s.a s = .next t) : exec (.outPort p) s = .next (t.advance 2 10) :=
  outputTo_of_next s p t h

theorem exec_outPort_of_fault {p : Byte} {s : State} {r : Fault} (h : ioWrite p s.a s = .fault r) : exec (.outPort p) s = .fault r := by
  have hout : exec (.outPort p) s = outputTo p s := rfl
  rw [hout, outputTo, h]

/-! ### The shift register (R266, R267) -/

theorem toNat_setShiftOffset_so (v : Byte) (s : State) : (setShiftOffset v s).so.toNat = v.toNat % 8 := by
  simp [setShiftOffset]

/-- The byte shifted in stands above the old high byte (R267). -/
theorem shiftIn_sr (v : Byte) (s : State) : (shiftIn v s).sr = Word.ofBytes v s.sr.hi := by
  apply BitVec.eq_of_getLsbD_eq
  intro i hi
  rw [Word.getLsbD_ofBytes, Word.getLsbD_hi]
  by_cases h8 : i < 8
  · simp [shiftIn, h8]
  · have habove : 16 ≤ 8 + i := by omega
    simp [shiftIn, h8, hi, BitVec.getLsbD_of_ge s.sr (8 + i) habove]

/-- Settles O39: OUT 2 replaces SO, and OUT 4 replaces SR. -/
theorem outputToTheShiftRegister : Obligations.OutputToTheShiftRegister := fun s =>
  ⟨⟨_, exec_outPort_of_next (ioWrite_2 s s.a), toNat_setShiftOffset_so s.a s, rfl⟩,
    ⟨_, exec_outPort_of_next (ioWrite_4 s s.a), shiftIn_sr s.a s, rfl⟩⟩

/-! ### The sound banks (R268, R269, R274) -/

/-- One-shots do not touch the loops (10_state.md R38). -/
theorem foldl_oneShots (port : SoundPort) (rising : Byte) (bits : List (Fin 8)) (loops : List SoundId) :
    (oneShots port rising bits).foldl applySound loops = loops := by
  induction bits with
  | nil => rfl
  | cons b bits ih =>
    rw [oneShots_cons, List.foldl_append]
    split <;> exact ih

/-- The loops after OUT 3: (3,0) is active where bit 0 rises, or where it was active and bit 0 does not fall; every other loop is as before. -/
theorem mem_loops_soundBank1 (v : Byte) (s : State) (id : SoundId) :
    id ∈ (soundBank1 v s).loops ↔
      (id = ⟨.port3, 0⟩ ∧ (v[0] && !s.ioPorts[3][0]) = true) ∨
        (id ∈ s.loops ∧ (id = ⟨.port3, 0⟩ → (s.ioPorts[3][0] && !v[0]) = false)) := by
  have hrise : (v &&& ~~~s.ioPorts[3])[0] = (v[0] && !s.ioPorts[3][0]) := rising_bit v s.ioPorts[3] 0
  have hfall : (s.ioPorts[3] &&& ~~~v)[0] = (s.ioPorts[3][0] && !v[0]) := rising_bit s.ioPorts[3] v 0
  simp only [soundBank1, State.emit_loops, bank1Events, List.foldl_append, foldl_oneShots, hrise, hfall]
  -- Bit 0 before and after: a rise starts the loop, a fall stops it, and the two cases without an edge do neither.
  cases s.ioPorts[3][0] <;> cases v[0] <;> simp [mem_applySound, eq_comm, or_comm]

theorem soundBank2_eq (v : Byte) (s : State) :
    soundBank2 v s = { s with ioPorts := s.ioPorts.set 5 v, soundEvents := s.soundEvents ++ bank2Events s.ioPorts[5] v } := by
  rw [soundBank2, State.emit, foldl_bank2Events]

/-- Settles O40: the events are those of each bank, edge by edge; OUT 3 has the loop of bit 0, and OUT 5 has none. -/
theorem outputToSoundBanks : Obligations.OutputToSoundBanks := by
  refine fun s => ⟨⟨_, exec_outPort_of_next (ioWrite_3 s s.a), ?bank1, ?loop, fun id hid => ?otherLoop⟩,
    _, exec_outPort_of_next (ioWrite_5 s s.a), ?bank2⟩
  case bank1 =>
    rw [soundBank1, bank1Events_eq]
    rfl
  case loop => simpa using mem_loops_soundBank1 s.a s ⟨.port3, 0⟩
  case otherLoop => simpa [hid] using mem_loops_soundBank1 s.a s id
  case bank2 =>
    rw [soundBank2_eq, bank2Events_eq]
    rfl

/-! ### The ports that ignore a write (R270) -/

/-- Settles O41: the handler leaves the state as it is, and the instruction ends. -/
theorem ignoredOutputs : Obligations.IgnoredOutputs := by
  intro p s hport
  have hwrite : ioWrite p s.a s = .next s := by
    rcases hport with h6 | ⟨h1, harcade⟩
    · exact ioWrite_other s s.a p h6
    · have h01 : p = 0 ∨ p = 1 := by bv_omega
      rcases h01 with rfl | rfl
      · exact ioWrite_0_arcade s s.a harcade
      · exact ioWrite_1_arcade s s.a harcade
  exact ⟨rfl, exec_outPort_of_next hwrite⟩

/-! ### The CP/M console stub (R271, R272) -/

section Console

variable {s : State}

theorem consoleBytes_2 (h : s.c = 2) : consoleBytes s = some [s.e] := if_pos h

theorem consoleBytes_9 (h : s.c = 9) : consoleBytes s = dollarString s.mem 65536 (Word.ofBytes s.d s.e) := by
  have hne : s.c ≠ 2 := by rw [h]; decide
  rw [consoleBytes, if_neg hne, if_pos h]

theorem consoleBytes_other (h2 : s.c ≠ 2) (h9 : s.c ≠ 9) : consoleBytes s = some [] := by
  rw [consoleBytes, if_neg h2, if_neg h9]

theorem exec_outPort_1_of_bytes {bytes : List Byte} (hm : s.mode = .cpm) (h : consoleBytes s = some bytes) :
    exec (.outPort 1) s = .next ({ s with outStream := s.outStream ++ bytes }.advance 2 10) :=
  exec_outPort_of_next (by rw [ioWrite_1_cpm s s.a hm, consoleOutput, h])

theorem exec_outPort_1_of_none (hm : s.mode = .cpm) (h : consoleBytes s = none) :
    exec (.outPort 1) s = .fault (.cpmUnterminatedString (Word.ofBytes s.d s.e)) :=
  exec_outPort_of_fault (by rw [ioWrite_1_cpm s s.a hm, consoleOutput, h])

end Console

/-- Settles O42: OUT 0 stops the CPU, and OUT 1 prints the bytes of the console, or faults where there are none. -/
theorem consoleStubOfCpm : Obligations.ConsoleStubOfCpm := by
  intro s hm
  refine ⟨exec_outPort_of_next (ioWrite_0_cpm s s.a hm), fun h2 => ?char, fun h9 n hn hdollar hbefore => ?string, fun h9 hnone => ?endless,
    fun h2 h9 => ?other⟩
  case char => exact exec_outPort_1_of_bytes hm (consoleBytes_2 h2)
  case string =>
    exact exec_outPort_1_of_bytes hm ((consoleBytes_9 h9).trans (dollarString_some s.mem 65536 _ n hn hdollar hbefore))
  case endless => exact exec_outPort_1_of_none hm ((consoleBytes_9 h9).trans (dollarString_none s.mem 65536 _ hnone))
  case other => exact exec_outPort_1_of_bytes hm (consoleBytes_other h2 h9)

end Sys2Proof.Machine
end

section
/-! PROOFS. Exceptions, interrupts, the video, the scheduler and the host (spec/60_exceptions.md): how an instruction can end, what a
request and a scan leave, the colours of a scheme, the turns of the scheduler and the events of a batch; O43, O49 to O55 and O60 from it. -/

namespace Sys2Proof.Machine

/-! ### How an instruction ends (R300, R301, R317) -/

/-- Settles O43: every form has its meaning, a conditional one in both ways, and only OUT has a path that answers no state. -/
theorem everyInstructionCompletesButOneCorner : Obligations.EveryInstructionCompletesButOneCorner := by
  intro i s
  cases i using Instr.byForm with
  | movReg dst src => exact .inl ⟨_, exec_movReg s dst src⟩
  | movFromM dst => exact .inl ⟨_, exec_movFromM s dst⟩
  | movToM src => exact .inl ⟨_, exec_movToM s src⟩
  | mviReg dst n => exact .inl ⟨_, exec_mviReg s dst n⟩
  | inrReg dst => exact .inl ⟨_, exec_inrReg s dst⟩
  | dcrReg dst => exact .inl ⟨_, exec_dcrReg s dst⟩
  | aluReg op src => exact .inl ⟨_, exec_aluReg s op src⟩
  | aluM op => exact .inl ⟨_, exec_aluM s op⟩
  | aluImm op n => exact .inl ⟨_, exec_aluImm s op n⟩
  | lxi p nn => exact .inl ⟨_, exec_lxi s p nn⟩
  | dad p => exact .inl ⟨_, exec_dad s p⟩
  | inx p => exact .inl ⟨_, exec_inx s p⟩
  | dcx p => exact .inl ⟨_, exec_dcx s p⟩
  | ldax p => exact .inl ⟨_, exec_ldax s p⟩
  | stax p => exact .inl ⟨_, exec_stax s p⟩
  | push p => exact .inl ⟨_, exec_push s p⟩
  | pop p => exact .inl ⟨_, exec_pop s p⟩
  | rst n => exact .inl ⟨_, exec_rst s n⟩
  | jcc cc nn => exact .inl ⟨_, (exec_jcc s cc nn).trans (jumpIf_eq_goto cc nn s)⟩
  | ccc cc nn => exact .inl ⟨_, (exec_ccc s cc nn).trans (apply_ite Host.Outcome.next _ _ _).symm⟩
  | rcc cc => exact .inl ⟨_, (exec_rcc s cc).trans (apply_ite Host.Outcome.next _ _ _).symm⟩
  | inPort n => exact .inl ⟨_, exec_inPort n s⟩
  | outPort n =>
    rcases outputTo_cases s n with hx | ⟨-, hx⟩ | ⟨bytes, hx⟩ | hx | hx | hx | hx | ⟨rfl, hmode, hc, hmem, hx⟩
    case inr.inr.inr.inr.inr.inr.inr => exact .inr ⟨rfl, hmode, hc, hmem, hx⟩
    all_goals exact .inl ⟨_, hx⟩
  | mviM n | inrM | dcrM | pushPsw | popPsw | nop | rlc | nop08 | rrc | nop10 | ral | nop18 | rar | nop20 | shld nn | daa | nop28
  | lhld nn | cma | nop30 | sta nn | stc | nop38 | lda nn | cmc | hlt | jmp nn | ret | jmpCB nn | call nn | retD9 | callDD nn | xthl
  | pchl | xchg | callED nn | di | sphl | ei | callFD nn => exact .inl ⟨_, rfl⟩

/-! ### Interrupts (R311, R312, R316) -/

@[simp] theorem State.reg_withIe (s : State) (ie : Bool) (r : Reg) : State.reg { s with ie := ie } r = s.reg r := by cases r <;> rfl

theorem requestInterrupt_reg (s : State) (n : BitVec 3) (r : Reg) : (requestInterrupt n s).reg r = s.reg r :=
  ((requestInterrupt_keeps s n).regs r List.not_mem_nil).trans (s.reg_withIe _ r)

/-- Settles O49: a request that is taken is the push of PC with IE and PC replaced. -/
theorem interruptIsTakenOrDiscarded : Obligations.InterruptIsTakenOrDiscarded := by
  refine fun n s => ⟨requestInterrupt_disabled s n, fun hie => ?_⟩
  have ht : requestInterrupt n s = { s.push16 s.pc with ie := false, pc := restartVector n } := requestInterrupt_enabled s n hie
  have hread : ∀ x : Word, (requestInterrupt n s).readByte x = (s.push16 s.pc).readByte x := fun x => congrArg (·.readByte x) ht
  obtain ⟨hsp, hlo, hhi, -, hflags, hmem⟩ := pushed_push16 s s.pc
  exact ⟨congrArg State.ie ht, (congrArg State.pc ht).trans (restartVector_eq n), (congrArg State.cyc ht).trans (s.push16_cyc s.pc),
    (congrArg State.sp ht).trans hsp, (hread _).trans hlo, (hread _).trans hhi, fun x hx => (hread x).trans (hmem x hx),
    requestInterrupt_reg s n, (congrArg State.flags ht).trans hflags, requestInterrupt_running s n, requestInterrupt_ports s n,
    requestInterrupt_outside s n⟩

/-- Settles O50: one below PC, RST pushes PC itself. -/
theorem interruptComparesWithRestart : Obligations.InterruptComparesWithRestart := by
  intro n s hie
  rw [exec_rst, restart, requestInterrupt_enabled s n hie]
  simp only [State.goto, BitVec.sub_add_cancel, hie]
  rfl

/-! ### The video (R321 to R325) -/

/-- The framebuffer after a scan: the scanned half shows VRAM, the other half is as it was (R324). -/
theorem scan_read (s : State) (half : Half) (x y : Nat) (hx : x < 224) (hy : y < 256) :
    cellsRead Config.black (s.scan half) (pixelIndex x y) =
      if half.firstRow ≤ y ∧ y < half.firstRow + 128 then s.colour x y else s.fbAt x y := by
  cases half with
  | top =>
    rw [scan_top_read s x y hx]
    exact if_congr (by simp only [Half.firstRow]; omega) rfl rfl
  | bottom =>
    rw [scan_bottom_read s x y hx hy, ← ite_not]
    exact if_congr (by simp only [Half.firstRow]; omega) rfl rfl

/-- `Video.Step` replaces the framebuffer and startY behind its request, or behind nothing while paused (R324, R325). -/
theorem videoStep_eq (s : State) :
    videoStep s = { (if s.paused then s else requestInterrupt s.startY.interrupt s) with
      fb := s.scan s.startY, startY := s.startY.other } := by
  cases hp : s.paused with
  | true => exact videoStep_paused s hp
  | false =>
    rw [if_neg Bool.false_ne_true, ← requestInterrupt_screen]
    exact if_neg (Bool.eq_false_iff.mp hp)

theorem videoStep_fb (s : State) : (videoStep s).fb = s.scan s.startY := by rw [videoStep_eq]

theorem videoStep_startY (s : State) : (videoStep s).startY = s.startY.other := by rw [videoStep_eq]

/-- The pixels that a scan leaves, from the address and the bit of R321. -/
theorem videoStep_fbAt (s : State) (x y : Nat) (hx : x < 224) (hy : y < 256) :
    (videoStep s).fbAt x y =
      if s.startY.firstRow ≤ y ∧ y < s.startY.firstRow + 128 then
        (if (s.readByte (BitVec.ofNat 16 (0x2400 + x * 32 + (255 - y) / 8))).getLsbD (7 - y % 8) then s.lutAt x y else 0xFF000000)
      else s.fbAt x y := by
  rw [State.fbAt, videoStep_fb]
  exact scan_read s s.startY x y hx hy

theorem Half.firstRow_other (half : Half) : half.other.firstRow = 128 - half.firstRow := by cases half <;> rfl

theorem Half.firstRow_cases (half : Half) : half.firstRow = 0 ∨ half.firstRow = 128 := by cases half <;> decide

theorem Half.interrupt_eq (half : Half) : half.interrupt = if half.firstRow = 0 then 1 else 2 := by cases half <;> rfl

/-- Settles O51: pixels, startY and the request are each read off the one update that `Video.Step` is. -/
theorem videoStepScansOneHalf : Obligations.VideoStepScansOneHalf := by
  refine fun s => ⟨videoStep_fbAt s, ?_, s.startY.firstRow_cases, ?_⟩
  · rw [videoStep_startY, Half.firstRow_other]
  · rw [videoStep_fb, videoStep_startY, ← Half.interrupt_eq]
    exact videoStep_eq s

/-! ### The colours of a scheme (R320, R323, R326) -/

/-- The search of R320 for the first covering rectangle is the overlay's. -/
theorem find_containing (rects : List Rect) (x y : Nat) :
    rects.find? (fun r =>
      ((r.xMin = 0 ∧ r.xMax = 0) ∨ (r.xMin ≤ x ∧ x < r.xMax)) ∧ ((r.yMin = 0 ∧ r.yMax = 0) ∨ (r.yMin ≤ y ∧ y < r.yMax))) =
      rects.find? (fun r => rectCovers r x y) := by
  congr 1
  funext r
  rw [Bool.eq_iff_iff, decide_eq_true_iff]
  exact (rectCovers_iff r x y).symm

/-- Red, green and blue of a PROM byte are its bits 0, 2 and 1 (R323). -/
theorem promColour_channels (v : Byte) :
    (promColour v).extractLsb' 16 8 = (if v[0] then 0xFF else 0x00) ∧
    (promColour v).extractLsb' 8 8 = (if v[2] then 0xFF else 0x00) ∧ (promColour v).extractLsb' 0 8 = (if v[1] then 0xFF else 0x00) := by
  rw [promColour]
  cases v[0] <;> cases v[2] <;> cases v[1] <;> decide

/-- The PROM entry of a pixel: one row of 32 entries for every 8 columns, behind the first 128 (R323). -/
theorem promIndex_eq (x y : Nat) : promIndex x y = 128 + 32 * (x / 8) + (255 - y) / 8 := by
  simp only [promIndex]
  omega

/-- Settles O52: every entry is the scheme's colour of its pixel, scheme by scheme. -/
theorem lutHoldsTheColoursOfTheScheme : Obligations.LutHoldsTheColoursOfTheScheme := by
  intro x y hx hy idx lutAtOf
  have hlut : ∀ scheme : ColourScheme, lutAtOf scheme = lutEntry scheme x y := fun scheme => lutOf_read scheme x y hx hy
  have hidx : promIndex x y = idx := promIndex_eq x y
  have hlast : idx ≤ 1023 := by omega
  refine ⟨fun scheme => ?alpha, hlut .none, fun rects => ⟨fun hnone => ?uncovered, fun r hr => ?covered⟩,
    ⟨by omega, hlast, hidx.symm⟩, fun bytes hbytes => ?prom⟩
  case alpha =>
    rw [hlut]
    exact alphaOf_lutEntry scheme x y
  case uncovered =>
    rw [hlut, lutEntry, overlayColour_find, ← find_containing, show _ = none from hnone]
    rfl
  case covered =>
    have hcolour : lutAtOf (.overlay rects) = opaqueColour r.colour := by
      rw [hlut, lutEntry, overlayColour_find, ← find_containing, show _ = some r from hr]
      rfl
    rw [hcolour]
    exact ⟨opaqueColour_rgb r.colour, opaqueColour_of_opaque r.colour⟩
  case prom =>
    have hentry : bytes[idx]? = some bytes[idx] := List.getElem?_eq_getElem (by omega)
    have hcolour : lutAtOf (.prom bytes) = promColour bytes[idx] := by
      rw [hlut, lutEntry, hidx, List.getD_eq_getElem?_getD, hentry, Option.getD_some]
    refine ⟨bytes[idx], hentry, ?_⟩
    rw [hcolour]
    exact promColour_channels bytes[idx]

/-! ### The turns of the scheduler (R331 to R334) -/

section Turns

variable {s t : State}

theorem State.live_iff : s.live = true ↔ s.over = false ∧ s.held = false := by
  simp only [State.live, Bool.and_eq_true, Bool.not_eq_true']

/-- A live turn whose CPU step answers a state goes on from that state. -/
theorem step_of_cpuStep_next (hover : s.over = false) (hheld : s.held = false) (h : cpuStep s = .next t) : step s = afterStep s t := by
  rw [step_of_live hover hheld, h]

/-- A turn held by a pause is a tick. -/
theorem step_of_held (hover : s.over = false) (hheld : s.held = true) : step s = hostTurn (videoStep s) :=
  (if_neg (Bool.eq_false_iff.mp hover)).trans (if_pos hheld)

/-- The count read back from CYC is the one that was added to it. -/
theorem cyclesConsumed_eq {n : Nat} (hn : n ≤ 18) (hcyc : t.cyc = s.cyc + BitVec.ofNat 64 n) : cyclesConsumed s t = n := by
  rw [cyclesConsumed, hcyc]
  bv_omega

theorem afterStep_inside_frame {n : Nat} (hrun : t.running = true) (hn : cyclesConsumed s t = n) (hacc : s.acc + n < 33333) :
    afterStep s t = .next { t with acc := s.acc + n } := by
  subst hn
  exact (if_pos hrun).trans (if_neg (Nat.not_le.mpr hacc))

theorem afterStep_full_frame {n : Nat} (hrun : t.running = true) (hn : cyclesConsumed s t = n) (hacc : 33333 ≤ s.acc + n) :
    afterStep s t = hostTurn (videoStep { t with acc := 0 }) := by
  subst hn
  exact (if_pos hrun).trans (if_pos hacc)

end Turns

/-- Settles O53: from at most 33,332, a count of at most 18 reaches at most 33,350. -/
theorem frameEndsAtTheBudget : Obligations.FrameEndsAtTheBudget := by
  intro s t hlive hacc hcpu hrun
  obtain ⟨hover, hheld⟩ := State.live_iff.mp hlive
  obtain ⟨i, hi⟩ := cpuStep_next hcpu
  obtain ⟨n, hlo, hhi, hcyc⟩ := cycGrowsByFourToEighteen i s t hi
  have hn : cyclesConsumed s t = n := cyclesConsumed_eq hhi hcyc
  have hstep : step s = afterStep s t := step_of_cpuStep_next hover hheld hcpu
  exact ⟨n, hlo, hhi, hcyc, fun hlt => hstep.trans (afterStep_inside_frame hrun hn hlt),
    fun hge => ⟨by omega, hstep.trans (afterStep_full_frame hrun hn hge)⟩⟩

/-- Settles O54: a stop is taken ahead of the boundary, and a turn and a batch both look for the end first. -/
theorem endOfTheRun : Obligations.EndOfTheRun := by
  refine ⟨fun s t hlive hcpu hstop => ?stop, fun s hend => step_of_over ?ended, fun _ _ => rfl⟩
  case stop =>
    obtain ⟨hover, hheld⟩ := State.live_iff.mp hlive
    exact (step_of_cpuStep_next hover hheld hcpu).trans (afterStep_of_stopped hstop)
  case ended =>
    rcases hend with hstop | hshut
    · rw [State.over, hstop, Bool.not_false, Bool.true_or]
    · rw [State.over, hshut, Bool.or_true]

/-! ### Host events (R340 to R343) -/

theorem hostTurn_of_nil {s : State} (h : s.schedule = []) : hostTurn s = .next s := by simp only [hostTurn, h]

theorem hostTurn_of_cons {s : State} {batch : List HostEvent} {rest : List (List HostEvent)} (h : s.schedule = batch :: rest) :
    hostTurn s = applyEvents batch { s with schedule := rest } := by simp only [hostTurn, h]

/-- A batch of one event is that event, a shutdown too. -/
theorem applyEvents_singleton (ev : HostEvent) (s : State) : applyEvents [ev] s = applyEvent ev s := by
  rw [applyEvents]
  cases applyEvent ev s with
  | next t => exact ite_self _
  | fault r => rfl
  | refused r => rfl

/-- An outcome other than a next state ends the batch. -/
theorem applyEvents_append_of_stop (first later : List HostEvent) (s : State) (h : ∀ t : State, applyEvents first s ≠ .next t) :
    applyEvents (first ++ later) s = applyEvents first s := by
  induction first generalizing s with
  | nil => exact absurd rfl (h s)
  | cons ev events ih =>
    rw [List.cons_append, applyEvents, applyEvents]
    rw [applyEvents] at h
    cases hev : applyEvent ev s with
    | next u =>
      rw [hev] at h
      by_cases hshut : u.shutdown = true
      · exact absurd (if_pos hshut) (h u)
      · simp only [hshut, Bool.false_eq_true, if_false] at h ⊢
        exact ih u h
    | fault r => rfl
    | refused r => rfl

/-- Settles O55: a held turn is a tick, which takes the schedule's next batch, and an unthrottled turn is not held. -/
theorem pausedTickRunsNoCpuStep : Obligations.PausedTickRunsNoCpuStep := by
  refine ⟨fun s hrun hshut hthrottled hpaused => ?held, fun s t hrun hshut hfree hcpu => ?unthrottled⟩
  case held =>
    have hheld : s.held = true := by rw [State.held, hthrottled, hpaused, Bool.and_self]
    have hstep : step s = hostTurn (videoStep s) := step_of_held (State.over_eq_false hrun hshut) hheld
    have htick : videoStep s = { s with fb := (videoStep s).fb, startY := s.startY.other } := by
      rw [videoStep_fb]
      exact videoStep_paused s hpaused
    have hschedule : (videoStep s).schedule = s.schedule := by rw [htick]
    have hstill : (videoStep s).paused = true := by rw [htick]; exact hpaused
    refine ⟨videoStep s, hstep, rfl, htick, videoStep_fbAt s, fun hnil => ?_, fun rest hcons => ?_⟩
    · rw [hstep, hostTurn_of_nil (hschedule.trans hnil)]
    · rw [hstep, hostTurn_of_cons (hschedule.trans hcons), applyEvents_singleton, applyEvent, hstill, Bool.not_true]
  case unthrottled =>
    have hheld : s.held = false := by rw [State.held, hfree, Bool.false_and]
    exact step_of_cpuStep_next (State.over_eq_false hrun hshut) hheld hcpu

/-- `SendInput` sets or clears its own bit and keeps the others (R340). -/
theorem getLsbD_setLatchBit (v : Byte) (bit : Nat) (value : Bool) (k : Nat) (hk : k < 8) :
    (setLatchBit v bit value).getLsbD k = if k = bit then value else v.getLsbD k := by
  have hmask : (1#8 <<< bit).getLsbD k = decide (k = bit) := by
    rw [Bool.eq_iff_iff, decide_eq_true_iff]
    simp [hk]
    omega
  cases value with
  | true =>
    rw [setLatchBit, if_pos rfl, BitVec.getLsbD_or, hmask]
    by_cases hbit : k = bit <;> simp [hbit]
  | false =>
    rw [setLatchBit, if_neg Bool.false_ne_true, BitVec.getLsbD_and, BitVec.getLsbD_not, hmask]
    by_cases hbit : k = bit <;> simp [hbit, hk]

theorem sendInput_in_range (port bit : Nat) (value : Bool) (s : State) (h : port < 8 ∧ bit < 8) :
    sendInput port bit value s =
      .next { s with ioPorts := s.ioPorts.set port (setLatchBit (s.ioPorts[port]'h.1) bit value) h.1 } := dif_pos h

theorem sendInput_completes (port bit : Nat) (value : Bool) (s : State) (h : port < 8 ∧ bit < 8) :
    ∃ t, applyEvent (.sendInput port bit value) s = .next t ∧ t = { s with ioPorts := t.ioPorts } ∧
      (∀ q : Nat, (hq : q < 8) → q ≠ port → t.ioPorts[q] = s.ioPorts[q]) ∧
      (∀ k : Nat, k < 8 → (t.ioPorts[port]'h.1).getLsbD k = if k = bit then value else (s.ioPorts[port]'h.1).getLsbD k) := by
  refine ⟨_, sendInput_in_range port bit value s h, rfl, fun q hq hne => Vector.getElem_set_ne h.1 hq hne.symm, fun k hk => ?_⟩
  rw [Vector.getElem_set_self]
  exact getLsbD_setLatchBit _ bit value k hk

theorem reset_completes (s : State) :
    ∃ t, applyEvent .reset s = .next t ∧
      (∀ r : Reg, t.reg r = 0) ∧ t.f = 0x02 ∧ t.sp = 0 ∧ t.pc = Config.initialPc s.mode ∧ t.cyc = 0 ∧ t.ie = false ∧
      t.sr = 0 ∧ t.so = 0 ∧ (∀ k : Fin 8, t.ioPorts[k] = 0) ∧ t.running = true ∧ t.lut = lutOf s.scheme ∧
      t.mem = s.mem ∧ t.startY = s.startY ∧ t.fb = s.fb ∧ t.paused = s.paused ∧ t.loops = s.loops := by
  have hregs : ∀ r : Reg, (hostReset s).reg r = 0 := fun r => by cases r <;> rfl
  have hports : ∀ k : Fin 8, (hostReset s).ioPorts[k] = 0 := fun k => Vector.getElem_replicate k.isLt
  have hflags : (hostReset s).flags = State.reset.flags := rfl
  have hf : (hostReset s).f = 0x02 := by rw [State.f, hflags]; rfl
  exact ⟨hostReset s, rfl, hregs, hf, rfl, rfl, rfl, rfl, rfl, rfl, hports, rfl, hostReset_lut s, rfl, rfl, rfl, rfl, rfl⟩

/-- Settles O60: the boundary, the batch, and the events one by one. -/
theorem hostInputsResetAndRefusals : Obligations.HostInputsResetAndRefusals := by
  refine ⟨fun s => ⟨hostTurn_of_nil, fun _ _ => hostTurn_of_cons⟩, fun first later s => ?batch, fun _ => rfl, sendInput_completes,
    fun _ _ _ _ hout => dif_neg hout, reset_completes, fun age snap s hsome => ?load, fun age s hlen => ?noSave, fun _ => rfl⟩
  case batch =>
    refine ⟨fun ev => applyEvents_singleton ev s, applyEvents_append first later s, fun r hr => ?_, fun r hr => ?_⟩
    · rw [applyEvents_append_of_stop first later s (by simp [hr]), hr]
    · rw [applyEvents_append_of_stop first later s (by simp [hr]), hr]
  case load => simp only [applyEvent, hsome]
  case noSave => simp only [applyEvent, List.getElem?_eq_none hlen]

end Sys2Proof.Machine
end

section
/-! PROOFS. The launch (spec/70_reset_and_hazards.md R350 to R356): which launches succeed, the state that one answers, what its memory
reads, and the cause that stops one; O58 from it. -/

namespace Sys2Proof.Machine

/-! ### Which launches succeed (R301, R320, R355) -/

theorem launch_ok_iff (p : LaunchParams) : (∃ s, launch p = .ok s) ↔ ImageAccepted p.mode p.image ∧ SchemeAccepted p.scheme := by
  rw [← loadImage_ok_iff p.mode p.image []]
  constructor
  · rintro ⟨s, hs⟩
    obtain ⟨m, hm, hcheck, -⟩ := launch_ok p s hs
    refine ⟨⟨m, hm⟩, ?_⟩
    rcases checkScheme_cases p.scheme with ⟨haccepted, -⟩ | ⟨-, -, herror⟩ | ⟨-, -, herror⟩
    · exact haccepted
    · rw [herror] at hcheck; cases hcheck
    · rw [herror] at hcheck; cases hcheck
  · rintro ⟨⟨m, hm⟩, hscheme⟩
    exact ⟨_, launch_accepted p m hm hscheme⟩

/-! ### The state at the end of the sequence (R350, R353) -/

section StartState

variable (p : LaunchParams) (m : Memory)

@[simp] theorem startState_readByte (x : Word) : (startState p m).readByte x = m.read x := rfl

@[simp] theorem startState_reg (r : Reg) : (startState p m).reg r = 0x00 := by cases r <;> rfl

@[simp] theorem startState_f : (startState p m).f = 0x02 := by
  have hflags : (startState p m).flags = State.reset.flags := rfl
  rw [State.f, hflags]
  rfl

@[simp] theorem startState_ioPorts (k : Fin 8) : (startState p m).ioPorts[k] = 0x00 := Vector.getElem_replicate k.isLt

/-- The screen is black, ACC is 0 and no loop plays, so only the two kinds of memory are in question. -/
theorem startState_inv (hm : m.wf = true) (hsaves : ∀ snap ∈ p.saves, Memory.wf snap.mem = true) : (startState p m).Inv where
  mem := hm
  saves := hsaves
  fb := rfl
  lut := startState_lut p m
  acc := .inl (show 0 < Config.cyclesPerFrame by decide)
  loops := List.nodup_nil
  alpha := fun _ h => absurd h List.not_mem_nil

end StartState

/-! ### What the launched memory reads (R355, R356) -/

/-- The five bytes of the patch, whatever memory held there (R356). -/
theorem patch_bytes (m : Memory) : patchAddrs.map (patchFor .cpm m).read = [0xD3, 0x00, 0xD3, 0x01, 0xC9] := by
  simp [patchAddrs, patchFor, cpmPatch, Memory.writeBytes, Memory.read_write]

/-- The patch ends below 0x0008. -/
theorem patchAddrs_below {x : Word} (h : x ∈ patchAddrs) : x.toNat < 8 := by
  simp only [patchAddrs, List.mem_cons, List.not_mem_nil, or_false] at h
  rcases h with rfl | rfl | rfl | rfl | rfl <;> decide

/-- A flat image is loaded from the initial PC, which in CPM mode is behind the patch. -/
theorem notPatched_of_base_le {mode : Mode} {x : Word} (h : (Config.initialPc mode).toNat ≤ x.toNat) :
    mode = .arcade ∨ x ∉ patchAddrs := by
  cases mode with
  | arcade => exact .inl rfl
  | cpm =>
    refine .inr fun hx => ?_
    have hlow := patchAddrs_below hx
    have hbase : (Config.initialPc .cpm).toNat = 256 := rfl
    omega

/-- But for the patch, a launched machine reads what its image loaded. -/
theorem launch_readByte {p : LaunchParams} {s : State} (h : launch p = .ok s) :
    ∃ m : Memory, loadImage p.mode p.image [] = .ok m ∧
      ∀ x : Word, (p.mode = .arcade ∨ x ∉ patchAddrs) → s.readByte x = m.read x := by
  obtain ⟨m, hm, -, rfl⟩ := launch_ok p s h
  exact ⟨m, hm, fun x hx => (startState_readByte p _ x).trans (read_patchFor p.mode m x hx)⟩

/-- A flat image that loads into empty memory fits, and memory then reads as its bytes from the base on and 0x00 elsewhere. -/
theorem loadImage_flat_read {mode : Mode} {bytes : List Byte} {m : Memory} (h : loadImage mode (.flat (.data bytes)) [] = .ok m) :
    (Config.initialPc mode).toNat + bytes.length ≤ 65536 ∧
    ∀ x : Word, m.read x =
      if (Config.initialPc mode).toNat ≤ x.toNat then (bytes[x.toNat - (Config.initialPc mode).toNat]?).getD 0x00 else 0x00 := by
  obtain ⟨_, ⟨⟩, hfit⟩ := (loadImage_ok_iff mode (.flat (.data bytes)) []).mp ⟨m, h⟩
  obtain ⟨m', hm', -, hread⟩ := loadAt_fits (flatBase mode) bytes [] hfit
  obtain rfl : m' = m := Except.ok.inj (hm'.symm.trans h)
  exact ⟨hfit, hread⟩

/-- Parts that load into empty memory leave the byte of the last one that has one. -/
theorem loadImage_parts_read {mode : Mode} {parts : List RomPart} {m : Memory} (h : loadImage mode (.parts parts) [] = .ok m) (x : Word) :
    m.read x = partsByte parts x.toNat := by
  obtain ⟨m', hm', -, hread⟩ := loadParts_accepted parts [] ((loadImage_ok_iff mode (.parts parts) []).mp ⟨m, h⟩)
  obtain rfl : m' = m := Except.ok.inj (hm'.symm.trans h)
  exact hread x

theorem launch_flat_reads {p : LaunchParams} {bytes : List Byte} {s : State} (himage : p.image = .flat (.data bytes))
    (h : launch p = .ok s) :
    (∀ k : Nat, (hk : k < bytes.length) → s.readByte (BitVec.ofNat 16 ((Config.initialPc p.mode).toNat + k)) = bytes[k]) ∧
    (∀ x : Word, (x.toNat < (Config.initialPc p.mode).toNat ∨ (Config.initialPc p.mode).toNat + bytes.length ≤ x.toNat) →
      (p.mode = .arcade ∨ x ∉ patchAddrs) → s.readByte x = 0x00) := by
  obtain ⟨m, hm, hs⟩ := launch_readByte h
  rw [himage] at hm
  obtain ⟨hfit, hread⟩ := loadImage_flat_read hm
  refine ⟨fun k hk => ?inside, fun x hx hpatch => ?outside⟩
  case inside =>
    have haddr : (BitVec.ofNat 16 ((Config.initialPc p.mode).toNat + k)).toNat = (Config.initialPc p.mode).toNat + k := by
      rw [BitVec.toNat_ofNat]
      exact Nat.mod_eq_of_lt (by omega)
    have hbase : (Config.initialPc p.mode).toNat ≤ (Config.initialPc p.mode).toNat + k := Nat.le_add_right _ _
    rw [hs _ (notPatched_of_base_le (hbase.trans_eq haddr.symm)), hread, haddr, if_pos hbase, Nat.add_sub_cancel_left,
      List.getElem?_eq_getElem hk, Option.getD_some]
  case outside =>
    rw [hs x hpatch, hread]
    split
    · next hle => rw [List.getElem?_eq_none (by omega), Option.getD_none]
    · rfl

/-! ### What stops a launch (R301, R320, R355) -/

theorem launch_flat_pastTop {p : LaunchParams} {bytes : List Byte} (himage : p.image = .flat (.data bytes))
    (hlong : 65536 < (Config.initialPc p.mode).toNat + bytes.length) : launch p = .error .imagePastTop := by
  refine launch_imageError p _ ?_
  rw [himage]
  exact if_neg (Nat.not_le.mpr hlong)

/-- Where the image loads, the load check of the scheme has the last word. -/
theorem launch_eq_schemeError {p : LaunchParams} {e : ConfigError} (himage : ImageAccepted p.mode p.image)
    (hcheck : checkScheme p.scheme = .error e) : launch p = .error e := by
  obtain ⟨m, hm⟩ := (loadImage_ok_iff p.mode p.image []).mpr himage
  exact launch_schemeError p m e hm hcheck

theorem checkScheme_overlay_rejected {rects : List Rect} (h : ¬SchemeAccepted (.overlay rects)) :
    checkScheme (.overlay rects) = .error .overlappingOverlays := by
  rcases checkScheme_cases (.overlay rects) with ⟨haccepted, -⟩ | ⟨-, -, hcheck⟩ | ⟨-, ⟨_, hprom⟩, -⟩
  · exact absurd haccepted h
  · exact hcheck
  · cases hprom

theorem checkScheme_prom_rejected {bytes : List Byte} (h : ¬SchemeAccepted (.prom bytes)) :
    checkScheme (.prom bytes) = .error .promSize := if_neg h

/-- Settles O58: what succeeds, the launched state, its memory for either kind of image, and the causes in their order. -/
theorem launchPreparesTheRun : Obligations.LaunchPreparesTheRun := by
  refine ⟨launch_ok_iff, fun p s h => ?state, fun p bytes s himage h => launch_flat_reads himage h,
    fun p parts s himage h x hx => ?parts, fun p => ⟨fun himage => ?missing, fun himage => ?bad, fun bytes => launch_flat_pastTop,
      fun first rest part e himage hfirst hpart => ?part, fun himage hscheme =>
        ⟨fun rects hrects => ?overlay, fun bytes hbytes => ?prom⟩⟩⟩
  case state =>
    obtain ⟨m, hm, -, rfl⟩ := launch_ok p s h
    have hwf : (patchFor p.mode m).wf = true := wf_patchFor p.mode m (loadImage_wf p.mode p.image [] m hm Memory.wf_nil)
    have hpatch : p.mode = .cpm → patchAddrs.map (patchFor p.mode m).read = [0xD3, 0x00, 0xD3, 0x01, 0xC9] :=
      fun hmode => hmode ▸ patch_bytes m
    exact ⟨startState_inv p _ hwf, startState_reg p _, startState_f p _, rfl, rfl, rfl, rfl, rfl, rfl, rfl, startState_ioPorts p _, rfl,
      fun _ _ => rfl, startState_lut p _, rfl, rfl, rfl, rfl, rfl, rfl, rfl, rfl, rfl, rfl, rfl, hpatch⟩
  case parts =>
    obtain ⟨m, hm, hs⟩ := launch_readByte h
    rw [himage] at hm
    rw [hs x hx, loadImage_parts_read hm x]
  case missing => exact launch_imageError p _ (by rw [himage, loadImage])
  case bad => exact launch_imageError p _ (by rw [himage, loadImage])
  case part => exact launch_imageError p e (by rw [himage, loadImage, loadParts_rejected first rest part [] e hfirst hpart])
  case overlay =>
    rw [hrects] at hscheme
    exact launch_eq_schemeError himage (by rw [hrects, checkScheme_overlay_rejected hscheme])
  case prom =>
    rw [hbytes] at hscheme
    exact launch_eq_schemeError himage (by rw [hbytes, checkScheme_prom_rejected hscheme])

end Sys2Proof.Machine
end
